-- ==== Sys2Proof/Word.lean ====
section
/-! DEFINITION. The machine's data types: 00_scope.md rule R5 (XLEN 32; Byte, HalfWord; 32 registers). -/

namespace Sys2Proof

/-- `Word`: "XLEN, width of a general register, of `pc`, of an address" is 32 bits (R5). -/
abbrev Word := BitVec 32

/-- `Address`: a 32-bit unsigned number; every one of the 2^32 addresses is valid (R5, R40). -/
abbrev Address := BitVec 32

/-- `HalfWord`: 16 bits (R5). -/
abbrev HalfWord := BitVec 16

/-- `Byte`: 8 bits (R5). -/
abbrev Byte := BitVec 8

/-- A register index, 0 to 31: a 5-bit field of an instruction word, so that an index out of range
cannot be written (R13, decision D24). -/
abbrev RegIdx := BitVec 5

end Sys2Proof
end

