-- ==== Sys2Proof/Syntax.lean ====
section
/-! DEFINITION. The instruction as syntax (one constructor per row of spec/opcode_table.json) and the enumerations and the
record of the decoder's output (10_state.md rules R19, R25; 30_encoding.md rules R71, R82). -/

namespace Sys2Proof

/-- One instruction with its operands, one constructor per row of the opcode table (R82; the two rows after `EBREAK` are the
FENCE row and the catch-all row of R90). Immediates are the encoded fields at the width the rules R73 to R78 give them: the
branch and jump offsets are the 13-bit and 21-bit numbers whose last bit is always 0 (R75, R77), `lui` and `auipc` hold
`bits[31:12]` (R76, R98). -/
inductive Instr where
  /-- R140 -/
  | lui (rd : RegIdx) (imm20 : BitVec 20)
  /-- R141 -/
  | auipc (rd : RegIdx) (imm20 : BitVec 20)
  /-- R150 -/
  | jal (rd : RegIdx) (off : BitVec 21)
  /-- R151 -/
  | jalr (rd rs1 : RegIdx) (imm : BitVec 12)
  /-- R161 -/
  | beq (rs1 rs2 : RegIdx) (off : BitVec 13)
  /-- R162 -/
  | bne (rs1 rs2 : RegIdx) (off : BitVec 13)
  /-- R163 -/
  | blt (rs1 rs2 : RegIdx) (off : BitVec 13)
  /-- R164 -/
  | bge (rs1 rs2 : RegIdx) (off : BitVec 13)
  /-- R165 -/
  | bltu (rs1 rs2 : RegIdx) (off : BitVec 13)
  /-- R166 -/
  | bgeu (rs1 rs2 : RegIdx) (off : BitVec 13)
  /-- R171 -/
  | lb (rd rs1 : RegIdx) (imm : BitVec 12)
  /-- R172 -/
  | lh (rd rs1 : RegIdx) (imm : BitVec 12)
  /-- R173 -/
  | lw (rd rs1 : RegIdx) (imm : BitVec 12)
  /-- R174 -/
  | lbu (rd rs1 : RegIdx) (imm : BitVec 12)
  /-- R175 -/
  | lhu (rd rs1 : RegIdx) (imm : BitVec 12)
  /-- R181 -/
  | sb (rs1 rs2 : RegIdx) (imm : BitVec 12)
  /-- R182 -/
  | sh (rs1 rs2 : RegIdx) (imm : BitVec 12)
  /-- R183 -/
  | sw (rs1 rs2 : RegIdx) (imm : BitVec 12)
  /-- R191 -/
  | addi (rd rs1 : RegIdx) (imm : BitVec 12)
  /-- R192 -/
  | slti (rd rs1 : RegIdx) (imm : BitVec 12)
  /-- R193 -/
  | sltiu (rd rs1 : RegIdx) (imm : BitVec 12)
  /-- R194 -/
  | xori (rd rs1 : RegIdx) (imm : BitVec 12)
  /-- R195 -/
  | ori (rd rs1 : RegIdx) (imm : BitVec 12)
  /-- R196 -/
  | andi (rd rs1 : RegIdx) (imm : BitVec 12)
  /-- R197 -/
  | slli (rd rs1 : RegIdx) (shamt : BitVec 5)
  /-- R198 -/
  | srli (rd rs1 : RegIdx) (shamt : BitVec 5)
  /-- R199 -/
  | srai (rd rs1 : RegIdx) (shamt : BitVec 5)
  /-- R201 -/
  | add (rd rs1 rs2 : RegIdx)
  /-- R202 -/
  | sub (rd rs1 rs2 : RegIdx)
  /-- R203 -/
  | sll (rd rs1 rs2 : RegIdx)
  /-- R204 -/
  | slt (rd rs1 rs2 : RegIdx)
  /-- R205 -/
  | sltu (rd rs1 rs2 : RegIdx)
  /-- R206 -/
  | xor (rd rs1 rs2 : RegIdx)
  /-- R207 -/
  | srl (rd rs1 rs2 : RegIdx)
  /-- R208 -/
  | sra (rd rs1 rs2 : RegIdx)
  /-- R209 -/
  | or (rd rs1 rs2 : RegIdx)
  /-- R210 -/
  | and (rd rs1 rs2 : RegIdx)
  /-- R216 -/
  | mul (rd rs1 rs2 : RegIdx)
  /-- R217 -/
  | mulh (rd rs1 rs2 : RegIdx)
  /-- R218 -/
  | mulhsu (rd rs1 rs2 : RegIdx)
  /-- R219 -/
  | mulhu (rd rs1 rs2 : RegIdx)
  /-- R220 -/
  | div (rd rs1 rs2 : RegIdx)
  /-- R221 -/
  | divu (rd rs1 rs2 : RegIdx)
  /-- R222 -/
  | rem (rd rs1 rs2 : RegIdx)
  /-- R223 -/
  | remu (rd rs1 rs2 : RegIdx)
  /-- R230 -/
  | ecall
  /-- R231 -/
  | ebreak
  /-- R234: a word with the MISC-MEM opcode `0001111`; it holds `bits[31:7]`, which no rule reads as operands. -/
  | fence (bits : BitVec 25)
  /-- R233: a word that matches no other row; it holds the whole word. -/
  | unknown (w : Word)
  deriving DecidableEq, Repr

/-- `kind` (R19): the 47 kinds of the decoder table and UNKNOWN (90_conflicts.md C5). -/
inductive Kind where
  | lui | auipc | jal | jalr | beq | bne | blt | bge | bltu | bgeu | lb | lh
  | lw | lbu | lhu | sb | sh | sw | addi | slti | sltiu | xori | ori | andi
  | slli | srli | srai | add | sub | sll | slt | sltu | xor | srl | sra | or
  | and | mul | mulh | mulhsu | mulhu | div | divu | rem | remu | ecall | ebreak
  | unknown
  deriving DecidableEq, Repr

/-- `format` (R19, R71). -/
inductive Format where
  | r | i | s | b | u | j | unknown
  deriving DecidableEq, Repr

/-- `alu_op` (R19). -/
inductive AluOp where
  | add | sub | sll | srl | sra | slt | sltu | xor | or | and
  | mul | mulh | mulhsu | mulhu | div | divu | rem | remu
  | passB | none
  deriving DecidableEq, Repr

/-- `Instruction`, the decoder's output record (R19), without the out-of-scope `text` field (R4). `imm` is the
`SignedWord` as a `Word`. -/
structure Decoded where
  raw : Word
  pc : Address
  kind : Kind
  format : Format
  rd : RegIdx
  rs1 : RegIdx
  rs2 : RegIdx
  imm : Word
  aluOp : AluOp
  regWrite : Bool
  memRead : Bool
  memWrite : Bool
  memToReg : Bool
  branch : Bool
  jump : Bool
  aluSrc : Bool
  deriving DecidableEq, Repr

/-- `ForwardSource`, the result of the hazard unit's `forward_source` (R25). -/
inductive ForwardSource where
  | none | exMem | memWb
  deriving DecidableEq, Repr

end Sys2Proof
end

