-- ==== Sys2Proof/WellFormed.lean ====
section
/-! DEFINITION. Which terms of `Instr` stand for a word of the machine: offsets are even (R75, R77), and the catch-all
constructor holds only words that no row of the opcode table matches (R79, R84). -/

namespace Sys2Proof

/-- The ten major opcodes of R79 and the MISC-MEM opcode `0001111` of the FENCE row (R90, R234). -/
def tableOpcodes : List (BitVec 7) :=
  [0b0110111#7, 0b0010111#7, 0b1101111#7, 0b1100111#7, 0b1100011#7, 0b0000011#7, 0b0100011#7, 0b0010011#7,
   0b0110011#7, 0b1110011#7, 0b0001111#7]

/-- The funct3 values BRANCH has no instruction for (R84). -/
def branchFunct3Unused : List (BitVec 3) := [0b010#3, 0b011#3]

/-- The funct3 values LOAD has no instruction for (R84). -/
def loadFunct3Unused : List (BitVec 3) := [0b011#3, 0b110#3, 0b111#3]

/-- The funct3 values STORE has no instruction for (R84). -/
def storeFunct3Unused : List (BitVec 3) := [0b011#3, 0b100#3, 0b101#3, 0b110#3, 0b111#3]

/-- The words that match no row of the opcode table but the catch-all one, as R84 lists them (the words of the FENCE row,
which also decode to UNKNOWN, have a constructor of their own). -/
def isUnknownWord (w : Word) : Bool :=
  let op := w.extractLsb' 0 7
  let f3 := w.extractLsb' 12 3
  let sys := w.extractLsb' 20 12
  (!tableOpcodes.contains op)
    || (op == 0b1100011#7 && branchFunct3Unused.contains f3)
    || (op == 0b0000011#7 && loadFunct3Unused.contains f3)
    || (op == 0b0100011#7 && storeFunct3Unused.contains f3)
    || (op == 0b1110011#7 && sys != 0#12 && sys != 1#12)

/-- "Branch immediate is always even" (R75). -/
def evenOffset13 (off : BitVec 13) : Bool := !off.getLsbD 0

/-- "J-immediate is always even" (R77). -/
def evenOffset21 (off : BitVec 21) : Bool := !off.getLsbD 0

/-- The instruction is one some word encodes. Register, shift-amount and 12-bit and 20-bit immediate fields are right by
their types. -/
def Instr.wellFormed : Instr → Bool
  | .jal _ off => evenOffset21 off
  | .beq _ _ off | .bne _ _ off | .blt _ _ off | .bge _ _ off | .bltu _ _ off | .bgeu _ _ off => evenOffset13 off
  | .unknown w => isUnknownWord w
  | .lui _ _ | .auipc _ _ | .jalr _ _ _
  | .lb _ _ _ | .lh _ _ _ | .lw _ _ _ | .lbu _ _ _ | .lhu _ _ _ | .sb _ _ _ | .sh _ _ _ | .sw _ _ _
  | .addi _ _ _ | .slti _ _ _ | .sltiu _ _ _ | .xori _ _ _ | .ori _ _ _ | .andi _ _ _
  | .slli _ _ _ | .srli _ _ _ | .srai _ _ _
  | .add _ _ _ | .sub _ _ _ | .sll _ _ _ | .slt _ _ _ | .sltu _ _ _ | .xor _ _ _ | .srl _ _ _ | .sra _ _ _
  | .or _ _ _ | .and _ _ _
  | .mul _ _ _ | .mulh _ _ _ | .mulhsu _ _ _ | .mulhu _ _ _ | .div _ _ _ | .divu _ _ _ | .rem _ _ _ | .remu _ _ _
  | .ecall | .ebreak | .fence _ => true

end Sys2Proof
end

