-- ==== Sys2Proof/Decode.lean ====
section
/-! DEFINITION. The decoder of 30_encoding.md rules R70 to R90 (total on words, R80), the decoded record (R81), the
byte-level decoder, the encoder of the canonical words (R82), and the same decoder read from the opcode table (R90). -/

namespace Sys2Proof

/-! Fixed field positions (R72) and immediates (R73 to R78). -/

/-- `opcode = bits[6:0]` (R72). -/
def opcodeOf (w : Word) : BitVec 7 := w.extractLsb' 0 7
/-- `rd = bits[11:7]` (R72). -/
def rdOf (w : Word) : RegIdx := w.extractLsb' 7 5
/-- `funct3 = bits[14:12]` (R72). -/
def funct3Of (w : Word) : BitVec 3 := w.extractLsb' 12 3
/-- `rs1 = bits[19:15]` (R72). -/
def rs1Of (w : Word) : RegIdx := w.extractLsb' 15 5
/-- `rs2 = bits[24:20]`, also the shift amount (R72, R78). -/
def rs2Of (w : Word) : RegIdx := w.extractLsb' 20 5
/-- `funct7 = bits[31:25]` (R72). -/
def funct7Of (w : Word) : BitVec 7 := w.extractLsb' 25 7

/-- `bits[31:20]` (R73). -/
def immIOf (w : Word) : BitVec 12 := w.extractLsb' 20 12
/-- `{bits[31:25], bits[11:7]}` (R74). -/
def immSOf (w : Word) : BitVec 12 := w.extractLsb' 25 7 ++ w.extractLsb' 7 5
/-- `{bits[31], bits[7], bits[30:25], bits[11:8], 0}` (R75). -/
def immBOf (w : Word) : BitVec 13 :=
  w.extractLsb' 31 1 ++ w.extractLsb' 7 1 ++ w.extractLsb' 25 6 ++ w.extractLsb' 8 4 ++ 0#1
/-- `bits[31:12]` (R76). -/
def immUOf (w : Word) : BitVec 20 := w.extractLsb' 12 20
/-- `{bits[31], bits[19:12], bits[20], bits[30:21], 0}` (R77). -/
def immJOf (w : Word) : BitVec 21 :=
  w.extractLsb' 31 1 ++ w.extractLsb' 12 8 ++ w.extractLsb' 20 1 ++ w.extractLsb' 21 10 ++ 0#1

/-! The decoder (R80), one function per opcode that has cases of its own. -/

/-- BRANCH, opcode `1100011` (R80). -/
def decodeBranch (w : Word) : Instr :=
  let f3 := funct3Of w
  if f3 = 0b000#3 then .beq (rs1Of w) (rs2Of w) (immBOf w)
  else if f3 = 0b001#3 then .bne (rs1Of w) (rs2Of w) (immBOf w)
  else if f3 = 0b100#3 then .blt (rs1Of w) (rs2Of w) (immBOf w)
  else if f3 = 0b101#3 then .bge (rs1Of w) (rs2Of w) (immBOf w)
  else if f3 = 0b110#3 then .bltu (rs1Of w) (rs2Of w) (immBOf w)
  else if f3 = 0b111#3 then .bgeu (rs1Of w) (rs2Of w) (immBOf w)
  else .unknown w

/-- LOAD, opcode `0000011` (R80). -/
def decodeLoad (w : Word) : Instr :=
  let f3 := funct3Of w
  if f3 = 0b000#3 then .lb (rdOf w) (rs1Of w) (immIOf w)
  else if f3 = 0b001#3 then .lh (rdOf w) (rs1Of w) (immIOf w)
  else if f3 = 0b010#3 then .lw (rdOf w) (rs1Of w) (immIOf w)
  else if f3 = 0b100#3 then .lbu (rdOf w) (rs1Of w) (immIOf w)
  else if f3 = 0b101#3 then .lhu (rdOf w) (rs1Of w) (immIOf w)
  else .unknown w

/-- STORE, opcode `0100011` (R80). -/
def decodeStore (w : Word) : Instr :=
  let f3 := funct3Of w
  if f3 = 0b000#3 then .sb (rs1Of w) (rs2Of w) (immSOf w)
  else if f3 = 0b001#3 then .sh (rs1Of w) (rs2Of w) (immSOf w)
  else if f3 = 0b010#3 then .sw (rs1Of w) (rs2Of w) (immSOf w)
  else .unknown w

/-- OP-IMM, opcode `0010011`: all eight funct3 values are used; of funct7 only bit 30 is tested, for funct3 `101`
(R80, R83, R190). -/
def decodeOpImm (w : Word) : Instr :=
  let f3 := funct3Of w
  if f3 = 0b000#3 then .addi (rdOf w) (rs1Of w) (immIOf w)
  else if f3 = 0b010#3 then .slti (rdOf w) (rs1Of w) (immIOf w)
  else if f3 = 0b011#3 then .sltiu (rdOf w) (rs1Of w) (immIOf w)
  else if f3 = 0b100#3 then .xori (rdOf w) (rs1Of w) (immIOf w)
  else if f3 = 0b110#3 then .ori (rdOf w) (rs1Of w) (immIOf w)
  else if f3 = 0b111#3 then .andi (rdOf w) (rs1Of w) (immIOf w)
  else if f3 = 0b001#3 then .slli (rdOf w) (rs1Of w) (rs2Of w)
  else if w.getLsbD 30 then .srai (rdOf w) (rs1Of w) (rs2Of w)
  else .srli (rdOf w) (rs1Of w) (rs2Of w)

/-- OP, opcode `0110011`: `funct7 = 0x01` selects the M map before the base map; bit 30 selects SUB and SRA
(R80, R83, R200, R215). -/
def decodeOp (w : Word) : Instr :=
  let f3 := funct3Of w
  if funct7Of w = 0b0000001#7 then
    if f3 = 0b000#3 then .mul (rdOf w) (rs1Of w) (rs2Of w)
    else if f3 = 0b001#3 then .mulh (rdOf w) (rs1Of w) (rs2Of w)
    else if f3 = 0b010#3 then .mulhsu (rdOf w) (rs1Of w) (rs2Of w)
    else if f3 = 0b011#3 then .mulhu (rdOf w) (rs1Of w) (rs2Of w)
    else if f3 = 0b100#3 then .div (rdOf w) (rs1Of w) (rs2Of w)
    else if f3 = 0b101#3 then .divu (rdOf w) (rs1Of w) (rs2Of w)
    else if f3 = 0b110#3 then .rem (rdOf w) (rs1Of w) (rs2Of w)
    else .remu (rdOf w) (rs1Of w) (rs2Of w)
  else
    if f3 = 0b000#3 then
      if w.getLsbD 30 then .sub (rdOf w) (rs1Of w) (rs2Of w) else .add (rdOf w) (rs1Of w) (rs2Of w)
    else if f3 = 0b001#3 then .sll (rdOf w) (rs1Of w) (rs2Of w)
    else if f3 = 0b010#3 then .slt (rdOf w) (rs1Of w) (rs2Of w)
    else if f3 = 0b011#3 then .sltu (rdOf w) (rs1Of w) (rs2Of w)
    else if f3 = 0b100#3 then .xor (rdOf w) (rs1Of w) (rs2Of w)
    else if f3 = 0b101#3 then
      if w.getLsbD 30 then .sra (rdOf w) (rs1Of w) (rs2Of w) else .srl (rdOf w) (rs1Of w) (rs2Of w)
    else if f3 = 0b110#3 then .or (rdOf w) (rs1Of w) (rs2Of w)
    else .and (rdOf w) (rs1Of w) (rs2Of w)

/-- SYSTEM, opcode `1110011`: `bits[31:20]` alone is tested (R80, R83, R235). -/
def decodeSystem (w : Word) : Instr :=
  if immIOf w = 0#12 then .ecall else if immIOf w = 1#12 then .ebreak else .unknown w

/-- `Decode` (R80) as an instruction with its operands, by the literal (lenient) reading of R83: only the named bits are
tested. It is total: a word no row matches is `unknown`, a MISC-MEM word is `fence` (R84, R234). -/
def decodeWord (w : Word) : Instr :=
  let op := opcodeOf w
  if op = 0b0110111#7 then .lui (rdOf w) (immUOf w)
  else if op = 0b0010111#7 then .auipc (rdOf w) (immUOf w)
  else if op = 0b1101111#7 then .jal (rdOf w) (immJOf w)
  else if op = 0b1100111#7 then .jalr (rdOf w) (rs1Of w) (immIOf w)
  else if op = 0b1100011#7 then decodeBranch w
  else if op = 0b0000011#7 then decodeLoad w
  else if op = 0b0100011#7 then decodeStore w
  else if op = 0b0010011#7 then decodeOpImm w
  else if op = 0b0110011#7 then decodeOp w
  else if op = 0b1110011#7 then decodeSystem w
  else if op = 0b0001111#7 then .fence (w.extractLsb' 7 25)
  else .unknown w

/-! The decoded record (R19, R80, R81). -/

/-- The kind of an instruction; the words of the FENCE row have kind UNKNOWN (R234, decision D15). -/
def Instr.kind : Instr → Kind
  | .lui _ _ => .lui
  | .auipc _ _ => .auipc
  | .jal _ _ => .jal
  | .jalr _ _ _ => .jalr
  | .beq _ _ _ => .beq
  | .bne _ _ _ => .bne
  | .blt _ _ _ => .blt
  | .bge _ _ _ => .bge
  | .bltu _ _ _ => .bltu
  | .bgeu _ _ _ => .bgeu
  | .lb _ _ _ => .lb
  | .lh _ _ _ => .lh
  | .lw _ _ _ => .lw
  | .lbu _ _ _ => .lbu
  | .lhu _ _ _ => .lhu
  | .sb _ _ _ => .sb
  | .sh _ _ _ => .sh
  | .sw _ _ _ => .sw
  | .addi _ _ _ => .addi
  | .slti _ _ _ => .slti
  | .sltiu _ _ _ => .sltiu
  | .xori _ _ _ => .xori
  | .ori _ _ _ => .ori
  | .andi _ _ _ => .andi
  | .slli _ _ _ => .slli
  | .srli _ _ _ => .srli
  | .srai _ _ _ => .srai
  | .add _ _ _ => .add
  | .sub _ _ _ => .sub
  | .sll _ _ _ => .sll
  | .slt _ _ _ => .slt
  | .sltu _ _ _ => .sltu
  | .xor _ _ _ => .xor
  | .srl _ _ _ => .srl
  | .sra _ _ _ => .sra
  | .or _ _ _ => .or
  | .and _ _ _ => .and
  | .mul _ _ _ => .mul
  | .mulh _ _ _ => .mulh
  | .mulhsu _ _ _ => .mulhsu
  | .mulhu _ _ _ => .mulhu
  | .div _ _ _ => .div
  | .divu _ _ _ => .divu
  | .rem _ _ _ => .rem
  | .remu _ _ _ => .remu
  | .ecall => .ecall
  | .ebreak => .ebreak
  | .fence _ => .unknown
  | .unknown _ => .unknown

/-- The `imm` column of R81: `SignedWord` as a `Word`; a shift amount is not sign-extended (R78); 0 for R format and
UNKNOWN, 0 for ECALL, 1 for EBREAK (decision D9). -/
def Instr.imm : Instr → Word
  | .lui _ imm20 | .auipc _ imm20 => imm20 ++ 0#12
  | .jal _ off => off.signExtend 32
  | .jalr _ _ imm => imm.signExtend 32
  | .beq _ _ off | .bne _ _ off | .blt _ _ off | .bge _ _ off | .bltu _ _ off | .bgeu _ _ off => off.signExtend 32
  | .lb _ _ imm | .lh _ _ imm | .lw _ _ imm | .lbu _ _ imm | .lhu _ _ imm => imm.signExtend 32
  | .sb _ _ imm | .sh _ _ imm | .sw _ _ imm => imm.signExtend 32
  | .addi _ _ imm | .slti _ _ imm | .sltiu _ _ imm | .xori _ _ imm | .ori _ _ imm | .andi _ _ imm => imm.signExtend 32
  | .slli _ _ shamt | .srli _ _ shamt | .srai _ _ shamt => shamt.setWidth 32
  | .add _ _ _ | .sub _ _ _ | .sll _ _ _ | .slt _ _ _ | .sltu _ _ _ | .xor _ _ _ | .srl _ _ _ | .sra _ _ _
  | .or _ _ _ | .and _ _ _
  | .mul _ _ _ | .mulh _ _ _ | .mulhsu _ _ _ | .mulhu _ _ _ | .div _ _ _ | .divu _ _ _ | .rem _ _ _ | .remu _ _ _ => 0#32
  | .ecall => 0#32
  | .ebreak => 1#32
  | .fence _ | .unknown _ => 0#32

/-- The `format` column of R81. -/
def Kind.format : Kind → Format
  | .lui | .auipc => .u
  | .jal => .j
  | .jalr => .i
  | .beq | .bne | .blt | .bge | .bltu | .bgeu => .b
  | .lb | .lh | .lw | .lbu | .lhu => .i
  | .sb | .sh | .sw => .s
  | .addi | .slti | .sltiu | .xori | .ori | .andi | .slli | .srli | .srai => .i
  | .add | .sub | .sll | .slt | .sltu | .xor | .srl | .sra | .or | .and => .r
  | .mul | .mulh | .mulhsu | .mulhu | .div | .divu | .rem | .remu => .r
  | .ecall | .ebreak => .i
  | .unknown => .unknown

/-- The `alu_op` column of R81 (NONE for JAL, branches, SYSTEM and UNKNOWN: decision D9). -/
def Kind.aluOp : Kind → AluOp
  | .lui => .passB
  | .auipc => .add
  | .jal => .none
  | .jalr => .add
  | .beq | .bne | .blt | .bge | .bltu | .bgeu => .none
  | .lb | .lh | .lw | .lbu | .lhu | .sb | .sh | .sw => .add
  | .addi | .add => .add
  | .slti | .slt => .slt
  | .sltiu | .sltu => .sltu
  | .xori | .xor => .xor
  | .ori | .or => .or
  | .andi | .and => .and
  | .slli | .sll => .sll
  | .srli | .srl => .srl
  | .srai | .sra => .sra
  | .sub => .sub
  | .mul => .mul
  | .mulh => .mulh
  | .mulhsu => .mulhsu
  | .mulhu => .mulhu
  | .div => .div
  | .divu => .divu
  | .rem => .rem
  | .remu => .remu
  | .ecall | .ebreak | .unknown => .none

/-- The conditional branches (the `branch` column of R81). -/
def Kind.isBranch : Kind → Bool
  | .beq | .bne | .blt | .bge | .bltu | .bgeu => true
  | _ => false

/-- The loads (the `mem_read` and `mem_to_reg` columns of R81). -/
def Kind.isLoad : Kind → Bool
  | .lb | .lh | .lw | .lbu | .lhu => true
  | _ => false

/-- The stores (the `mem_write` column of R81). -/
def Kind.isStore : Kind → Bool
  | .sb | .sh | .sw => true
  | _ => false

/-- The jumps (the `jump` column of R81). -/
def Kind.isJump : Kind → Bool
  | .jal | .jalr => true
  | _ => false

/-- The `reg_write` column of R81: every kind but branches, stores, SYSTEM and UNKNOWN. -/
def Kind.writesReg : Kind → Bool
  | .beq | .bne | .blt | .bge | .bltu | .bgeu | .sb | .sh | .sw | .ecall | .ebreak | .unknown => false
  | _ => true

/-- The `alu_src` column of R81. -/
def Kind.usesImm : Kind → Bool
  | .lui | .auipc | .jalr | .lb | .lh | .lw | .lbu | .lhu | .sb | .sh | .sw
  | .addi | .slti | .sltiu | .xori | .ori | .andi | .slli | .srli | .srai => true
  | _ => false

/-- `Decode(w, pc)` (R80): the record. `rd`, `rs1` and `rs2` are the raw bit fields whatever the format (R72, decision
D10); `pc` is metadata (R85). -/
def decodeRecord (w : Word) (pc : Address) : Decoded :=
  let i := decodeWord w
  let k := i.kind
  { raw := w, pc := pc, kind := k, format := k.format
    rd := rdOf w, rs1 := rs1Of w, rs2 := rs2Of w, imm := i.imm, aluOp := k.aluOp
    regWrite := k.writesReg, memRead := k.isLoad, memWrite := k.isStore, memToReg := k.isLoad
    branch := k.isBranch, jump := k.isJump, aluSrc := k.usesImm }

/-- The canonical NOP word `addi x0, x0, 0` (R88). -/
abbrev nopWord : Word := 0x00000013#32

/-- `is_nop(ins)` (R88). -/
def isNop (raw : Word) : Bool := raw == nopWord || raw == 0#32

/-! Bytes: every instruction is one 32-bit little-endian word (R41, R70). -/

/-- Why the byte decoder gives no instruction: fewer than the four bytes of a word (R70). No word is refused (R84). -/
inductive DecodeError where
  | truncated (available : Nat)
  deriving DecidableEq, Repr

/-- The word of four bytes, the first at the lowest address (R41). -/
def wordOfBytes (b0 b1 b2 b3 : Byte) : Word := b3 ++ b2 ++ b1 ++ b0

/-- The four bytes of a word, the lowest address first (R41). -/
def bytesOfWord (w : Word) : List Byte :=
  [w.extractLsb' 0 8, w.extractLsb' 8 8, w.extractLsb' 16 8, w.extractLsb' 24 8]

/-- Decode the first instruction of a byte sequence and give the rest. -/
def decodeBytes : List Byte → Except DecodeError (Instr × List Byte)
  | b0 :: b1 :: b2 :: b3 :: rest => .ok (decodeWord (wordOfBytes b0 b1 b2 b3), rest)
  | bs => .error (.truncated bs.length)

/-- What the decoder reads from the instruction whose bits, numbered as the opcode table numbers them, are the low `nbits`
bits of `w`; every higher bit of the word is 0. `none` where `nbits` is longer than an instruction (R70). -/
def decodeTableWord (nbits w : Nat) : Option Instr :=
  if nbits ≤ 32 then
    match decodeBytes (bytesOfWord (BitVec.ofNat 32 (w % 2 ^ nbits))) with
    | .ok (i, _) => some i
    | .error _ => none
  else none

/-! The encoder: the canonical word of R82, with the layouts of R71. -/

/-- R format (R71). -/
def encodeR (funct7 : BitVec 7) (rs2 rs1 : RegIdx) (funct3 : BitVec 3) (rd : RegIdx) (opcode : BitVec 7) : Word :=
  funct7 ++ rs2 ++ rs1 ++ funct3 ++ rd ++ opcode

/-- I format (R71, R73). -/
def encodeI (imm : BitVec 12) (rs1 : RegIdx) (funct3 : BitVec 3) (rd : RegIdx) (opcode : BitVec 7) : Word :=
  imm ++ rs1 ++ funct3 ++ rd ++ opcode

/-- S format (R71, R74). -/
def encodeS (imm : BitVec 12) (rs2 rs1 : RegIdx) (funct3 : BitVec 3) (opcode : BitVec 7) : Word :=
  imm.extractLsb' 5 7 ++ rs2 ++ rs1 ++ funct3 ++ imm.extractLsb' 0 5 ++ opcode

/-- B format (R71, R75). -/
def encodeB (off : BitVec 13) (rs2 rs1 : RegIdx) (funct3 : BitVec 3) (opcode : BitVec 7) : Word :=
  off.extractLsb' 12 1 ++ off.extractLsb' 5 6 ++ rs2 ++ rs1 ++ funct3 ++ off.extractLsb' 1 4 ++ off.extractLsb' 11 1 ++ opcode

/-- U format (R71, R76). -/
def encodeU (imm20 : BitVec 20) (rd : RegIdx) (opcode : BitVec 7) : Word := imm20 ++ rd ++ opcode

/-- J format (R71, R77). -/
def encodeJ (off : BitVec 21) (rd : RegIdx) (opcode : BitVec 7) : Word :=
  off.extractLsb' 20 1 ++ off.extractLsb' 1 10 ++ off.extractLsb' 11 1 ++ off.extractLsb' 12 8 ++ rd ++ opcode

/-- The word an assembler emits for an instruction (R82), or the word itself for the two UNKNOWN rows. -/
def encode : Instr → Word
  | .lui rd imm20 => encodeU imm20 rd 0b0110111#7
  | .auipc rd imm20 => encodeU imm20 rd 0b0010111#7
  | .jal rd off => encodeJ off rd 0b1101111#7
  | .jalr rd rs1 imm => encodeI imm rs1 0b000#3 rd 0b1100111#7
  | .beq rs1 rs2 off => encodeB off rs2 rs1 0b000#3 0b1100011#7
  | .bne rs1 rs2 off => encodeB off rs2 rs1 0b001#3 0b1100011#7
  | .blt rs1 rs2 off => encodeB off rs2 rs1 0b100#3 0b1100011#7
  | .bge rs1 rs2 off => encodeB off rs2 rs1 0b101#3 0b1100011#7
  | .bltu rs1 rs2 off => encodeB off rs2 rs1 0b110#3 0b1100011#7
  | .bgeu rs1 rs2 off => encodeB off rs2 rs1 0b111#3 0b1100011#7
  | .lb rd rs1 imm => encodeI imm rs1 0b000#3 rd 0b0000011#7
  | .lh rd rs1 imm => encodeI imm rs1 0b001#3 rd 0b0000011#7
  | .lw rd rs1 imm => encodeI imm rs1 0b010#3 rd 0b0000011#7
  | .lbu rd rs1 imm => encodeI imm rs1 0b100#3 rd 0b0000011#7
  | .lhu rd rs1 imm => encodeI imm rs1 0b101#3 rd 0b0000011#7
  | .sb rs1 rs2 imm => encodeS imm rs2 rs1 0b000#3 0b0100011#7
  | .sh rs1 rs2 imm => encodeS imm rs2 rs1 0b001#3 0b0100011#7
  | .sw rs1 rs2 imm => encodeS imm rs2 rs1 0b010#3 0b0100011#7
  | .addi rd rs1 imm => encodeI imm rs1 0b000#3 rd 0b0010011#7
  | .slti rd rs1 imm => encodeI imm rs1 0b010#3 rd 0b0010011#7
  | .sltiu rd rs1 imm => encodeI imm rs1 0b011#3 rd 0b0010011#7
  | .xori rd rs1 imm => encodeI imm rs1 0b100#3 rd 0b0010011#7
  | .ori rd rs1 imm => encodeI imm rs1 0b110#3 rd 0b0010011#7
  | .andi rd rs1 imm => encodeI imm rs1 0b111#3 rd 0b0010011#7
  | .slli rd rs1 shamt => encodeR 0b0000000#7 shamt rs1 0b001#3 rd 0b0010011#7
  | .srli rd rs1 shamt => encodeR 0b0000000#7 shamt rs1 0b101#3 rd 0b0010011#7
  | .srai rd rs1 shamt => encodeR 0b0100000#7 shamt rs1 0b101#3 rd 0b0010011#7
  | .add rd rs1 rs2 => encodeR 0b0000000#7 rs2 rs1 0b000#3 rd 0b0110011#7
  | .sub rd rs1 rs2 => encodeR 0b0100000#7 rs2 rs1 0b000#3 rd 0b0110011#7
  | .sll rd rs1 rs2 => encodeR 0b0000000#7 rs2 rs1 0b001#3 rd 0b0110011#7
  | .slt rd rs1 rs2 => encodeR 0b0000000#7 rs2 rs1 0b010#3 rd 0b0110011#7
  | .sltu rd rs1 rs2 => encodeR 0b0000000#7 rs2 rs1 0b011#3 rd 0b0110011#7
  | .xor rd rs1 rs2 => encodeR 0b0000000#7 rs2 rs1 0b100#3 rd 0b0110011#7
  | .srl rd rs1 rs2 => encodeR 0b0000000#7 rs2 rs1 0b101#3 rd 0b0110011#7
  | .sra rd rs1 rs2 => encodeR 0b0100000#7 rs2 rs1 0b101#3 rd 0b0110011#7
  | .or rd rs1 rs2 => encodeR 0b0000000#7 rs2 rs1 0b110#3 rd 0b0110011#7
  | .and rd rs1 rs2 => encodeR 0b0000000#7 rs2 rs1 0b111#3 rd 0b0110011#7
  | .mul rd rs1 rs2 => encodeR 0b0000001#7 rs2 rs1 0b000#3 rd 0b0110011#7
  | .mulh rd rs1 rs2 => encodeR 0b0000001#7 rs2 rs1 0b001#3 rd 0b0110011#7
  | .mulhsu rd rs1 rs2 => encodeR 0b0000001#7 rs2 rs1 0b010#3 rd 0b0110011#7
  | .mulhu rd rs1 rs2 => encodeR 0b0000001#7 rs2 rs1 0b011#3 rd 0b0110011#7
  | .div rd rs1 rs2 => encodeR 0b0000001#7 rs2 rs1 0b100#3 rd 0b0110011#7
  | .divu rd rs1 rs2 => encodeR 0b0000001#7 rs2 rs1 0b101#3 rd 0b0110011#7
  | .rem rd rs1 rs2 => encodeR 0b0000001#7 rs2 rs1 0b110#3 rd 0b0110011#7
  | .remu rd rs1 rs2 => encodeR 0b0000001#7 rs2 rs1 0b111#3 rd 0b0110011#7
  | .ecall => 0x00000073#32
  | .ebreak => 0x00100073#32
  | .fence bits => bits ++ 0b0001111#7
  | .unknown w => w

/-! The decoder read from the opcode table (R90). -/

/-- One row of `opcode_table.json` of priority below 9: the canonical `match` and `mask` of R82 and the bits the decoder
tests (`decoder_match`, `decoder_mask`, R83). -/
structure OpcodeRow where
  kind : Kind
  canonMatch : Word
  canonMask : Word
  decoderMatch : Word
  decoderMask : Word
  deriving DecidableEq, Repr

/-- The rows of priority 1, in the table's order: every row but the ten base OP rows and the two UNKNOWN rows (R90). -/
def opcodeRowsFirst : List OpcodeRow :=
  [⟨.lui, 0x00000037#32, 0x0000007F#32, 0x00000037#32, 0x0000007F#32⟩,
   ⟨.auipc, 0x00000017#32, 0x0000007F#32, 0x00000017#32, 0x0000007F#32⟩,
   ⟨.jal, 0x0000006F#32, 0x0000007F#32, 0x0000006F#32, 0x0000007F#32⟩,
   ⟨.jalr, 0x00000067#32, 0x0000707F#32, 0x00000067#32, 0x0000007F#32⟩,
   ⟨.beq, 0x00000063#32, 0x0000707F#32, 0x00000063#32, 0x0000707F#32⟩,
   ⟨.bne, 0x00001063#32, 0x0000707F#32, 0x00001063#32, 0x0000707F#32⟩,
   ⟨.blt, 0x00004063#32, 0x0000707F#32, 0x00004063#32, 0x0000707F#32⟩,
   ⟨.bge, 0x00005063#32, 0x0000707F#32, 0x00005063#32, 0x0000707F#32⟩,
   ⟨.bltu, 0x00006063#32, 0x0000707F#32, 0x00006063#32, 0x0000707F#32⟩] ++
  [⟨.bgeu, 0x00007063#32, 0x0000707F#32, 0x00007063#32, 0x0000707F#32⟩,
   ⟨.lb, 0x00000003#32, 0x0000707F#32, 0x00000003#32, 0x0000707F#32⟩,
   ⟨.lh, 0x00001003#32, 0x0000707F#32, 0x00001003#32, 0x0000707F#32⟩,
   ⟨.lw, 0x00002003#32, 0x0000707F#32, 0x00002003#32, 0x0000707F#32⟩,
   ⟨.lbu, 0x00004003#32, 0x0000707F#32, 0x00004003#32, 0x0000707F#32⟩,
   ⟨.lhu, 0x00005003#32, 0x0000707F#32, 0x00005003#32, 0x0000707F#32⟩,
   ⟨.sb, 0x00000023#32, 0x0000707F#32, 0x00000023#32, 0x0000707F#32⟩,
   ⟨.sh, 0x00001023#32, 0x0000707F#32, 0x00001023#32, 0x0000707F#32⟩,
   ⟨.sw, 0x00002023#32, 0x0000707F#32, 0x00002023#32, 0x0000707F#32⟩] ++
  [⟨.addi, 0x00000013#32, 0x0000707F#32, 0x00000013#32, 0x0000707F#32⟩,
   ⟨.slti, 0x00002013#32, 0x0000707F#32, 0x00002013#32, 0x0000707F#32⟩,
   ⟨.sltiu, 0x00003013#32, 0x0000707F#32, 0x00003013#32, 0x0000707F#32⟩,
   ⟨.xori, 0x00004013#32, 0x0000707F#32, 0x00004013#32, 0x0000707F#32⟩,
   ⟨.ori, 0x00006013#32, 0x0000707F#32, 0x00006013#32, 0x0000707F#32⟩,
   ⟨.andi, 0x00007013#32, 0x0000707F#32, 0x00007013#32, 0x0000707F#32⟩,
   ⟨.slli, 0x00001013#32, 0xFE00707F#32, 0x00001013#32, 0x0000707F#32⟩,
   ⟨.srli, 0x00005013#32, 0xFE00707F#32, 0x00005013#32, 0x4000707F#32⟩,
   ⟨.srai, 0x40005013#32, 0xFE00707F#32, 0x40005013#32, 0x4000707F#32⟩] ++
  [⟨.mul, 0x02000033#32, 0xFE00707F#32, 0x02000033#32, 0xFE00707F#32⟩,
   ⟨.mulh, 0x02001033#32, 0xFE00707F#32, 0x02001033#32, 0xFE00707F#32⟩,
   ⟨.mulhsu, 0x02002033#32, 0xFE00707F#32, 0x02002033#32, 0xFE00707F#32⟩,
   ⟨.mulhu, 0x02003033#32, 0xFE00707F#32, 0x02003033#32, 0xFE00707F#32⟩,
   ⟨.div, 0x02004033#32, 0xFE00707F#32, 0x02004033#32, 0xFE00707F#32⟩,
   ⟨.divu, 0x02005033#32, 0xFE00707F#32, 0x02005033#32, 0xFE00707F#32⟩,
   ⟨.rem, 0x02006033#32, 0xFE00707F#32, 0x02006033#32, 0xFE00707F#32⟩,
   ⟨.remu, 0x02007033#32, 0xFE00707F#32, 0x02007033#32, 0xFE00707F#32⟩,
   ⟨.ecall, 0x00000073#32, 0xFFFFFFFF#32, 0x00000073#32, 0xFFF0007F#32⟩] ++
  [⟨.ebreak, 0x00100073#32, 0xFFFFFFFF#32, 0x00100073#32, 0xFFF0007F#32⟩]

/-- The rows of priority 2: the ten base OP rows, tried after the M rows (R90). -/
def opcodeRowsSecond : List OpcodeRow :=
  [⟨.add, 0x00000033#32, 0xFE00707F#32, 0x00000033#32, 0x4000707F#32⟩,
   ⟨.sub, 0x40000033#32, 0xFE00707F#32, 0x40000033#32, 0x4000707F#32⟩,
   ⟨.sll, 0x00001033#32, 0xFE00707F#32, 0x00001033#32, 0x0000707F#32⟩,
   ⟨.slt, 0x00002033#32, 0xFE00707F#32, 0x00002033#32, 0x0000707F#32⟩,
   ⟨.sltu, 0x00003033#32, 0xFE00707F#32, 0x00003033#32, 0x0000707F#32⟩,
   ⟨.xor, 0x00004033#32, 0xFE00707F#32, 0x00004033#32, 0x0000707F#32⟩,
   ⟨.srl, 0x00005033#32, 0xFE00707F#32, 0x00005033#32, 0x4000707F#32⟩,
   ⟨.sra, 0x40005033#32, 0xFE00707F#32, 0x40005033#32, 0x4000707F#32⟩,
   ⟨.or, 0x00006033#32, 0xFE00707F#32, 0x00006033#32, 0x0000707F#32⟩] ++
  [⟨.and, 0x00007033#32, 0xFE00707F#32, 0x00007033#32, 0x0000707F#32⟩]

/-- The rows in the order a decoder built from the table tries them (R90). -/
def opcodeRows : List OpcodeRow := opcodeRowsFirst ++ opcodeRowsSecond

/-- The kind a decoder built from the table gives a word: that of the first row whose tested bits match, else UNKNOWN (R90). -/
def tableKind (w : Word) : Kind :=
  match opcodeRows.find? (fun r => w &&& r.decoderMask == r.decoderMatch) with
  | some r => r.kind
  | none => .unknown

/-- A canonical word: one an assembler emits (R82: `w & mask = match` for some row). -/
def isCanonical (w : Word) : Bool := opcodeRows.any (fun r => w &&& r.canonMask == r.canonMatch)

end Sys2Proof
end

