-- ==== Sys2Proof/Machine/Flags.lean ====
section
/-! DEFINITION. Comparisons. The core has no status flags, condition codes or predicate registers (10_state.md rule R16), so
no flag is computed anywhere: SLT and its kin write 0 or 1 into a register, and branches compare two registers directly
(40_alu_and_datapath.md rule R113). These are the comparisons both use. -/

namespace Sys2Proof.Machine

/-- `signed(a) < signed(b)` (R8, R110). -/
def ltSigned (a b : Word) : Bool := decide (a.toInt < b.toInt)

/-- `unsigned(a) < unsigned(b)` (R8, R110). -/
def ltUnsigned (a b : Word) : Bool := decide (a.toNat < b.toNat)

/-- "1 if ... else 0" as a `Word` (R110). -/
def boolWord (c : Bool) : Word := if c then 1#32 else 0#32

/-- `BranchTaken(kind, a, b)` (R113). It is called only for the six branch kinds. -/
def branchTaken (k : Kind) (a b : Word) : Bool :=
  match k with
  | .beq => a == b
  | .bne => a != b
  | .blt => ltSigned a b
  | .bge => !ltSigned a b
  | .bltu => ltUnsigned a b
  | .bgeu => !ltUnsigned a b
  | _ => false

end Sys2Proof.Machine
end

