-- ==== Sys2Proof/Machine/Alu.lean ====
section
/-! DEFINITION. `ALU(op, a, b)`, a pure function of an `alu_op` and two words (40_alu_and_datapath.md rules R110 to R112,
R114). No operation traps. -/

namespace Sys2Proof.Machine

/-- The shift amount `b & 0x1F` (R111). -/
def shiftAmount (b : Word) : Nat := b.toNat % 32

/-- Bits 63:32 of the 64-bit two's complement number `p` (R110). -/
def highHalf (p : Int) : Word := (BitVec.ofInt 64 p).extractLsb' 32 32

/-- `INT32_MIN` (R110). -/
abbrev int32Min : Word := 0x80000000#32

/-- DIV (R110, R112): all ones by zero, the dividend on overflow, else the quotient rounded toward zero. -/
def divSigned (a b : Word) : Word :=
  if b = 0#32 then 0xFFFFFFFF#32
  else if a = int32Min ∧ b = 0xFFFFFFFF#32 then a
  else BitVec.ofInt 32 (Int.tdiv a.toInt b.toInt)

/-- DIVU (R110). -/
def divUnsigned (a b : Word) : Word :=
  if b = 0#32 then 0xFFFFFFFF#32 else BitVec.ofNat 32 (a.toNat / b.toNat)

/-- REM (R110, R112): the dividend by zero, 0 on overflow, else the remainder with the sign of the dividend. -/
def remSigned (a b : Word) : Word :=
  if b = 0#32 then a
  else if a = int32Min ∧ b = 0xFFFFFFFF#32 then 0#32
  else BitVec.ofInt 32 (a.toInt - b.toInt * Int.tdiv a.toInt b.toInt)

/-- REMU (R110). -/
def remUnsigned (a b : Word) : Word :=
  if b = 0#32 then a else BitVec.ofNat 32 (a.toNat % b.toNat)

/-- `ALU(op, a, b)` (R110). -/
def alu (op : AluOp) (a b : Word) : Word :=
  match op with
  | .add => a + b
  | .sub => a - b
  | .sll => a <<< shiftAmount b
  | .srl => a >>> shiftAmount b
  | .sra => a.sshiftRight (shiftAmount b)
  | .slt => boolWord (ltSigned a b)
  | .sltu => boolWord (ltUnsigned a b)
  | .xor => a ^^^ b
  | .or => a ||| b
  | .and => a &&& b
  | .mul => BitVec.ofInt 32 (a.toInt * b.toInt)
  | .mulh => highHalf (a.toInt * b.toInt)
  | .mulhsu => highHalf (a.toInt * (b.toNat : Int))
  | .mulhu => highHalf ((a.toNat : Int) * (b.toNat : Int))
  | .div => divSigned a b
  | .divu => divUnsigned a b
  | .rem => remSigned a b
  | .remu => remUnsigned a b
  | .passB => b
  | .none => 0#32

end Sys2Proof.Machine
end

