-- ==== Sys2Proof/Machine/Operands.lean ====
section
/-! DEFINITION. The common datapath as pure functions of a decoded record, its address `pc` and its register operands `A` and
`B` (40_alu_and_datapath.md rules R115 to R117): what both engines compute for an instruction, and the operand forms of the
instruction files 41 to 49. -/

namespace Sys2Proof.Machine

/-! Operand forms: the values of the immediate fields (R73 to R78). -/

/-- A sign-extended I or S immediate (R73, R74). -/
def sext12 (imm : BitVec 12) : Word := imm.signExtend 32

/-- A sign-extended branch offset (R75). -/
def sext13 (off : BitVec 13) : Word := off.signExtend 32

/-- A sign-extended jump offset (R77). -/
def sext21 (off : BitVec 21) : Word := off.signExtend 32

/-- The upper immediate `{bits[31:12], 0x000}` (R76). -/
def upperImm (imm20 : BitVec 20) : Word := imm20 ++ 0#12

/-- The shift amount of an immediate shift, not sign-extended (R78). -/
def shamtWord (shamt : BitVec 5) : Word := shamt.setWidth 32

/-- The register-relative target of JALR with its bit 0 cleared: `(rs1 + imm) & ~1` (R117, R151). -/
def jalrTarget (a imm : Word) : Address := (a + imm) &&& 0xFFFFFFFE#32

/-! The datapath of a decoded record. -/

/-- `alu_a` (R115): the instruction's own address for AUIPC, else the first register operand. -/
def aluInputA (i : Decoded) (pc A : Word) : Word := if i.kind = .auipc then pc else A

/-- `alu_b` (R115): the immediate if `alu_src`, else the second register operand. -/
def aluInputB (i : Decoded) (B : Word) : Word := if i.aluSrc then i.imm else B

/-- `result` (R115, R116): the link address for JAL and JALR, else the ALU's result. -/
def resultOf (i : Decoded) (pc A B : Word) : Word :=
  if i.kind = .jal ∨ i.kind = .jalr then pc + 4#32
  else alu i.aluOp (aluInputA i pc A) (aluInputB i B)

/-- `taken` (R117, R296). -/
def takenOf (i : Decoded) (A B : Word) : Bool :=
  if i.kind = .jal ∨ i.kind = .jalr then true else i.branch && branchTaken i.kind A B

/-- `target` where `taken`, else 0 (R117, R296). -/
def targetOf (i : Decoded) (pc A B : Word) : Address :=
  if i.kind = .jalr then jalrTarget A i.imm
  else if takenOf i A B then pc + i.imm
  else 0#32

/-- `next_pc_of(ins)` (R117). -/
def nextPcOf (i : Decoded) (pc A B : Word) : Address :=
  if takenOf i A B then targetOf i pc A B else pc + 4#32

end Sys2Proof.Machine
end

