-- ==== Sys2Proof/Config.lean ====
section
/-! DEFINITION. What is fixed for one instance of the hardware: the layout constants and launch parameters of
00_scope.md rule R5, and the one open parameter of the spec, `MEM_COUNT_GRANULARITY` (R55, decision D13). -/

namespace Sys2Proof

/-- What the open parameter `MEM_COUNT_GRANULARITY` settles (R55, D13): "per access or per byte; fetches counted or not". -/
structure MemCountGranularity where
  /-- a word access counts 4 (true) or 1 (false) -/
  perByte : Bool
  /-- an instruction fetch moves the read counter -/
  countFetches : Bool
  deriving DecidableEq, Repr, Inhabited

/-- `MEM_COUNT_GRANULARITY`, left open by R55 and D13: a constant with no body, so nothing can be proved of its value
(assumption log 4). -/
opaque Config.memCountGranularity : MemCountGranularity

/-- `TEXT_BASE`, where the text image is placed (R5, R49). -/
def Config.textBase : Address := 0x00000000#32

/-- `DATA_BASE`, where the data image is placed (R5, R49). -/
def Config.dataBase : Address := 0x10000000#32

/-- `STACK_TOP`, the launch value of `sp` (R5, R49). -/
def Config.stackTop : Address := 0x7FFFFFF0#32

/-- What a byte that neither the launch image nor a store has written reads as: "unread locations read as 0" (R26, R40). -/
abbrev Config.unwrittenByte : Byte := 0#8

/-- The reset-time parameters of rules R5 and R6: `SP_INIT`, `RESET_PC` and `IMAGE` (text words, data bytes). Their defaults
are the spec's (decisions D3, D4); the default image is empty (assumption log 5). -/
structure LaunchParams where
  spInit : Word := Config.stackTop
  resetPc : Address := Config.textBase
  textImage : List Word := []
  dataImage : List Byte := []
  deriving DecidableEq, Repr

end Sys2Proof
end

