-- ==== Sys2Proof/Machine/Latches.lean ====
section
/-! DEFINITION. The four pipeline latches and their flushed values (10_state.md rules R21 to R24). -/

namespace Sys2Proof.Machine

/-- IF/ID (R21). -/
structure IfId where
  raw : Word
  pc : Address
  pc4 : Word
  valid : Bool
  deriving DecidableEq, Repr

/-- ID/EX (R22). -/
structure IdEx where
  ins : Decoded
  rs1Val : Word
  rs2Val : Word
  pc : Address
  pc4 : Word
  valid : Bool
  deriving DecidableEq, Repr

/-- EX/MEM (R23). `rs2Val` is the store data, after forwarding. -/
structure ExMem where
  ins : Decoded
  aluResult : Word
  rs2Val : Word
  branchTarget : Address
  branchTaken : Bool
  valid : Bool
  deriving DecidableEq, Repr

/-- MEM/WB (R23). -/
structure MemWb where
  ins : Decoded
  aluResult : Word
  memData : Word
  valid : Bool
  deriving DecidableEq, Repr

/-- The instruction of a flushed latch: `Decode(0x00000013, 0)` (R24, decision D7). -/
def nopRecord : Decoded := decodeRecord nopWord 0#32

/-- A flushed IF/ID (R24). -/
def flushedIfId : IfId := { raw := nopWord, pc := 0#32, pc4 := 0#32, valid := false }

/-- A flushed ID/EX (R24). -/
def flushedIdEx : IdEx :=
  { ins := nopRecord, rs1Val := 0#32, rs2Val := 0#32, pc := 0#32, pc4 := 0#32, valid := false }

/-- A flushed EX/MEM (R24). -/
def flushedExMem : ExMem :=
  { ins := nopRecord, aluResult := 0#32, rs2Val := 0#32, branchTarget := 0#32, branchTaken := false, valid := false }

/-- A flushed MEM/WB (R24). -/
def flushedMemWb : MemWb := { ins := nopRecord, aluResult := 0#32, memData := 0#32, valid := false }

end Sys2Proof.Machine
end

