-- ==== Sys2Proof/Machine/State.lean ====
section
/-! DEFINITION. The whole state of the machine as plain data (10_state.md), the reasons a step could stop, and the state right
after reset (R30, R270). -/

namespace Sys2Proof.Machine

/-- The two "selectable microarchitectural models" over the same decoder, register file, ALU and memory (R2). One engine runs
at a time, without interleaving (R122, decision D25). -/
inductive Engine where
  /-- the five-stage pipeline, the hardware of the spec (R2) -/
  | pipeline
  /-- the single-cycle engine, the reference meaning of every instruction (R120) -/
  | singleCycle
  deriving DecidableEq, Repr

/-- Memory (R26, R40): the listed bytes; every other address reads `Config.unwrittenByte`. Its canonical form is `Memory.wf`. -/
abbrev Memory := List Host.Cell

/-- The state. -/
structure State where
  /-- the stored values of `x0` to `x31`; reading index 0 gives 0 whatever is stored (R10) -/
  regs : Vector Word 32
  /-- R14: the next fetch address in the pipeline, the instruction's address in the single-cycle engine -/
  pc : Address
  /-- R15: of the pipeline engine only -/
  nextPc : Address
  /-- R26, R40 -/
  mem : Memory
  /-- R21 -/
  ifId : IfId
  /-- R22 -/
  idEx : IdEx
  /-- R23 -/
  exMem : ExMem
  /-- R23 -/
  memWb : MemWb
  /-- R17 -/
  halted : Bool
  /-- R17 -/
  stalled : Bool
  /-- R17, an input the host toggles -/
  hazardDetection : Bool
  /-- R17, an input the host toggles -/
  forwarding : Bool
  /-- R18 -/
  cycles : Nat
  /-- R18 -/
  instructions : Nat
  /-- R18 -/
  stalls : Nat
  /-- R18 -/
  flushes : Nat
  /-- R18 -/
  forwards : Nat
  /-- the memory's read counter (R26, R55) -/
  memReads : Nat
  /-- the memory's write counter (R26, R55) -/
  memWrites : Nat
  /-- `BREAKPOINTS`, the host's set of addresses (R5, R256); membership alone is read -/
  breakpoints : List Address
  /-- which engine runs (R2) -/
  engine : Engine
  deriving DecidableEq, Repr

/-- What a tick or a step returns to the host (R6, R290, decision D18). It is an output, not state. -/
inductive Status where
  | running | paused | halted
  deriving DecidableEq, Repr

/-- Reasons to stop with a fault. There is none: "No instruction and no access raises a synchronous exception" (R240), every
address is valid (R40), the decoder never fails (R84), and the step function is total (R241). -/
inductive Fault where
  deriving DecidableEq, Repr

/-- Reasons to refuse an instruction. -/
inductive Refusal where
  /-- Raised by an arm of `exec` whose instruction has no meaning yet; no arm raises it. Safe: the machine stops where the
  hardware goes on. -/
  | notModelled (mnemonic : String)
  deriving DecidableEq, Repr

/-- The launch state (R30, R270) with the default parameters, an empty image, both configuration inputs true and the pipeline
engine selected (assumption log 1, 2, 5, 6). -/
def State.reset : State :=
  { regs := (Vector.replicate 32 0#32).set 2 Config.stackTop
    pc := Config.textBase
    nextPc := Config.textBase + 4#32
    mem := []
    ifId := flushedIfId
    idEx := flushedIdEx
    exMem := flushedExMem
    memWb := flushedMemWb
    halted := false
    stalled := false
    hazardDetection := true
    forwarding := true
    cycles := 0
    instructions := 0
    stalls := 0
    flushes := 0
    forwards := 0
    memReads := 0
    memWrites := 0
    breakpoints := []
    engine := .pipeline }

end Sys2Proof.Machine
end

