-- ==== Sys2Proof/Machine/Ops.lean ====
section
/-! DEFINITION. The named operations over registers, memory and counters that both engines and every meaning use. There is no
operation that takes an exception and none that returns from one: nothing traps, no state is saved, no vector exists
(60_exceptions.md rules R240, R241, R245, R246). The one event that ends execution is the halt (`halt`, R247). -/

namespace Sys2Proof.Machine

/-! Registers (R10). -/

/-- `read(i)`: "returns 0 if i=0 else the stored value" (R10). -/
def readReg (s : State) (i : RegIdx) : Word := if i = 0#5 then 0#32 else s.regs[i.toNat]

/-- `write(i, v)`: "is a no-op if i=0" (R10). -/
def writeReg (i : RegIdx) (v : Word) (s : State) : State :=
  if i = 0#5 then s else { s with regs := s.regs.set i.toNat v }

/-! Memory (R40 to R46): a list of cells with strictly rising addresses and no byte equal to the unwritten one. -/

/-- The canonical form of a memory: addresses strictly rising, inside the 2^32-byte space, no cell holding what an unlisted
address reads as. -/
abbrev Memory.wf (m : Memory) : Prop :=
  m.Pairwise (fun c d => c.1 < d.1) ∧ ∀ c ∈ m, c.1 < 2 ^ 32 ∧ c.2 ≠ Config.unwrittenByte

/-- The byte listed at an address, or the unwritten byte: "unread locations read as 0" (R40). -/
def Memory.lookup : Memory → Nat → Byte
  | [], _ => Config.unwrittenByte
  | c :: m, a => if c.1 = a then c.2 else Memory.lookup m a

/-- The memory without the cell at an address. -/
def Memory.erase (m : Memory) (a : Nat) : Memory := m.filter (fun c => c.1 != a)

/-- Insert a cell in address order. -/
def Memory.insert : Memory → Nat → Byte → Memory
  | [], a, v => [(a, v)]
  | c :: m, a, v => if a < c.1 then (a, v) :: c :: m else c :: Memory.insert m a v

/-- `read_byte(a)` (R42). -/
def Memory.readByte (m : Memory) (a : Address) : Byte := m.lookup a.toNat

/-- `write_byte(a, v)` (R42): makes `Mem[a] = v` and changes no other byte. -/
def Memory.writeByte (m : Memory) (a : Address) (v : Byte) : Memory :=
  if v = Config.unwrittenByte then m.erase a.toNat else (m.erase a.toNat).insert a.toNat v

/-- `MemRead(addr, 2)`, little-endian, the byte addresses wrapping modulo 2^32 (R43, R45). -/
def Memory.readHalf (m : Memory) (a : Address) : HalfWord := m.readByte (a + 1#32) ++ m.readByte a

/-- `MemRead(addr, 4)` (R43, R45). -/
def Memory.readWord (m : Memory) (a : Address) : Word :=
  m.readByte (a + 3#32) ++ m.readByte (a + 2#32) ++ m.readByte (a + 1#32) ++ m.readByte a

/-- `MemWrite(addr, 2, v)` (R44, R45). -/
def Memory.writeHalf (m : Memory) (a : Address) (v : HalfWord) : Memory :=
  (m.writeByte a (v.extractLsb' 0 8)).writeByte (a + 1#32) (v.extractLsb' 8 8)

/-- `MemWrite(addr, 4, v)` (R44, R45). -/
def Memory.writeWord (m : Memory) (a : Address) (v : Word) : Memory :=
  (((m.writeByte a (v.extractLsb' 0 8)).writeByte (a + 1#32) (v.extractLsb' 8 8)).writeByte
    (a + 2#32) (v.extractLsb' 16 8)).writeByte (a + 3#32) (v.extractLsb' 24 8)

/-! Typed accesses (R47, R118). -/

/-- How many bytes a kind moves; 0 for a kind that makes no data access (R47). -/
def accessWidth (k : Kind) : Nat :=
  match k with
  | .lb | .lbu | .sb => 1
  | .lh | .lhu | .sh => 2
  | .lw | .sw => 4
  | _ => 0

/-- `mem_data` of a load of this kind at an address (R118); 0 for every other kind (decision D21). -/
def loadValue (k : Kind) (m : Memory) (a : Address) : Word :=
  match k with
  | .lb => (m.readByte a).signExtend 32
  | .lbu => (m.readByte a).setWidth 32
  | .lh => (m.readHalf a).signExtend 32
  | .lhu => (m.readHalf a).setWidth 32
  | .lw => m.readWord a
  | _ => 0#32

/-- The memory after a store of this kind (R118); unchanged by every other kind. -/
def storeValue (k : Kind) (m : Memory) (a : Address) (v : Word) : Memory :=
  match k with
  | .sb => m.writeByte a (v.extractLsb' 0 8)
  | .sh => m.writeHalf a (v.extractLsb' 0 16)
  | .sw => m.writeWord a v
  | _ => m

/-! The memory's two counters (R55): how far one access moves them is the open `MEM_COUNT_GRANULARITY`. -/

/-- What one access of `n` bytes adds to its counter (R55, D13). -/
def accessCount (n : Nat) : Nat := if Config.memCountGranularity.perByte then n else 1

/-- What one instruction fetch adds to the read counter (R55, D13). -/
def fetchCount : Nat := if Config.memCountGranularity.countFetches then accessCount 4 else 0

/-- Count a data read of `n` bytes. -/
def countRead (n : Nat) (s : State) : State := { s with memReads := s.memReads + accessCount n }

/-- Count an instruction fetch. -/
def countFetch (s : State) : State := { s with memReads := s.memReads + fetchCount }

/-- A store of this kind: the bytes and the write counter (R44, R55, R118). -/
def storeMem (k : Kind) (a : Address) (v : Word) (s : State) : State :=
  { s with mem := storeValue k s.mem a v, memWrites := s.memWrites + accessCount (accessWidth k) }

/-! Completing an instruction of the single-cycle engine (R120, R121). -/

/-- `pc <- target; cycles <- cycles + 1; instructions <- instructions + 1` (R120). -/
def retireAt (target : Address) (s : State) : State :=
  { s with pc := target, cycles := s.cycles + 1, instructions := s.instructions + 1 }

/-- The halt, the one terminal event (R247): `halted` becomes true and nothing else. -/
def halt (s : State) : State := { s with halted := true }

/-! The shapes of the instruction rules, files 41 to 49. -/

/-- `x[rd] <- v; pc <- pc + 4` (R140, R190, R200, R215). -/
def writeResult (rd : RegIdx) (v : Word) (s : State) : State := retireAt (s.pc + 4#32) (writeReg rd v s)

/-- `x[rd] <- ALU(op, x[rs1], imm); pc <- pc + 4` (R190). -/
def regImm (op : AluOp) (rd rs1 : RegIdx) (imm : Word) (s : State) : State :=
  writeResult rd (alu op (readReg s rs1) imm) s

/-- `x[rd] <- ALU(op, x[rs1], x[rs2]); pc <- pc + 4` (R200, R215). -/
def regReg (op : AluOp) (rd rs1 rs2 : RegIdx) (s : State) : State :=
  writeResult rd (alu op (readReg s rs1) (readReg s rs2)) s

/-- The effective address `(x[rs1] + imm) mod 2^32` of a load or store (R170, R180). -/
def effectiveAddress (s : State) (rs1 : RegIdx) (imm : BitVec 12) : Address := readReg s rs1 + sext12 imm

/-- `x[rd] <- ext(MemRead(addr, n)); pc <- pc + 4` (R170). -/
def loadInto (k : Kind) (rd rs1 : RegIdx) (imm : BitVec 12) (s : State) : State :=
  writeResult rd (loadValue k s.mem (effectiveAddress s rs1 imm)) (countRead (accessWidth k) s)

/-- `MemWrite(addr, n, x[rs2]); pc <- pc + 4` (R180). -/
def storeFrom (k : Kind) (rs1 rs2 : RegIdx) (imm : BitVec 12) (s : State) : State :=
  retireAt (s.pc + 4#32) (storeMem k (effectiveAddress s rs1 imm) (readReg s rs2) s)

/-- `if cond(x[rs1], x[rs2]) then pc <- pc + imm else pc <- pc + 4` (R160). -/
def branchOn (k : Kind) (rs1 rs2 : RegIdx) (off : BitVec 13) (s : State) : State :=
  retireAt (if branchTaken k (readReg s rs1) (readReg s rs2) then s.pc + sext13 off else s.pc + 4#32) s

/-- `x[rd] <- pc + 4; pc <- target` (R150, R151). -/
def jumpTo (rd : RegIdx) (target : Address) (s : State) : State := retireAt target (writeReg rd (s.pc + 4#32) s)

/-- `pc <- pc + 4` and nothing else (R231, R233). -/
def passBy (s : State) : State := retireAt (s.pc + 4#32) s

end Sys2Proof.Machine
end

