-- ==== Sys2Proof/Machine/Datapath.lean ====
section
/-! DEFINITION. The reference step as the spec writes it: one generic step over the decoded record's control bits
(40_alu_and_datapath.md rules R115 to R121). `exec` gives the same effect instruction by instruction; the pipeline spreads
these functions over its stages. -/

namespace Sys2Proof.Machine

/-- The value `WB` writes: "memory data (if `mem_to_reg`) else alu_result" (R119, R293). -/
def writeBackValue (i : Decoded) (memData result : Word) : Word := if i.memToReg then memData else result

/-- `if ins.reg_write then x[ins.rd] <- v` (R119). -/
def writeBack (i : Decoded) (v : Word) (s : State) : State := if i.regWrite then writeReg i.rd v s else s

/-- The memory access of R118 at the address `result`, with the store data `B`: at most one access, and its counter. -/
def accessMemory (i : Decoded) (result B : Word) (s : State) : State :=
  if i.memRead then countRead (accessWidth i.kind) s
  else if i.memWrite then storeMem i.kind result B s
  else s

/-- `mem_data` of R118. -/
def memDataOf (i : Decoded) (result : Word) (s : State) : Word :=
  if i.memRead then loadValue i.kind s.mem result else 0#32

/-- One `step` of R120 after the fetch and the decode, for an engine that is not halted. -/
def datapathStep (i : Decoded) (s : State) : State :=
  if i.kind = .ecall then halt (retireAt s.pc s)
  else
    let A := readReg s i.rs1
    let B := readReg s i.rs2
    let result := resultOf i s.pc A B
    let memData := memDataOf i result s
    retireAt (nextPcOf i s.pc A B) (writeBack i (writeBackValue i memData result) (accessMemory i result B s))

end Sys2Proof.Machine
end

