-- ==== Sys2Proof/Machine/Pipeline.lean ====
section
/-! DEFINITION. The hazard unit and the cycle protocol of the five-stage pipeline (70_reset_and_hazards.md rules R280 to R299).
Each stage is a function of the start-of-tick latch it reads (R291) and of the current state. -/

namespace Sys2Proof.Machine

/-! The hazard unit: pure predicates over latches. -/

/-- `detect_load_use(id_ex, next_ins)` (R280). -/
def detectLoadUse (d : IdEx) (next : Decoded) : Bool :=
  d.valid && d.ins.memRead && d.ins.rd != 0#5 && (next.rs1 == d.ins.rd || next.rs2 == d.ins.rd)

/-- `forward_source(rs, ex_mem, mem_wb)` (R281). -/
def forwardSource (rs : RegIdx) (e : ExMem) (m : MemWb) : ForwardSource :=
  if rs = 0#5 then .none
  else if e.valid && e.ins.regWrite && e.ins.rd == rs then .exMem
  else if m.valid && m.ins.regWrite && m.ins.rd == rs then .memWb
  else .none

/-- `detect_branch_hazard(ex_mem)` (R282). The tick applies it to the EX/MEM value EX has just produced. -/
def detectBranchHazard (e : ExMem) : Bool := e.valid && e.branchTaken

/-! The stages. -/

/-- WB on `m = o.MEM_WB` (R293). -/
def wbStage (m : MemWb) (s : State) : State :=
  if m.valid then
    let t := writeBack m.ins (writeBackValue m.ins m.memData m.aluResult) s
    if m.ins.kind = .ecall then halt t else t
  else s

/-- MEM on `e = o.EX_MEM` (R294). -/
def memStage (e : ExMem) (s : State) : State :=
  if e.valid then
    { accessMemory e.ins e.aluResult e.rs2Val s with
      memWb := { ins := e.ins, aluResult := e.aluResult, memData := memDataOf e.ins e.aluResult s, valid := true }
      instructions := s.instructions + (if e.ins.kind ≠ .unknown ∧ isNop e.ins.raw = false then 1 else 0) }
  else { s with memWb := flushedMemWb }

/-- The operand EX uses for the register field `rs` whose ID value is `v`, and what it adds to `forwards` (R295). -/
def forwardOperand (forwarding : Bool) (rs : RegIdx) (v : Word) (e : ExMem) (m : MemWb) : Word × Nat :=
  if forwarding then
    match forwardSource rs e m with
    | .exMem => (e.aluResult, 1)
    | .memWb => (writeBackValue m.ins m.memData m.aluResult, 1)
    | .none => (v, 0)
  else (v, 0)

/-- The EX/MEM value EX produces from a valid ID/EX and its operands (R295, R296). -/
def executed (d : IdEx) (A B : Word) : ExMem :=
  { ins := d.ins
    aluResult := resultOf d.ins d.pc A B
    rs2Val := B
    branchTarget := targetOf d.ins d.pc A B
    branchTaken := takenOf d.ins A B
    valid := true }

/-- The mispredict handling: `pc`, `next_pc`, the two flushes and the counter (R296). -/
def redirect (target : Address) (s : State) : State :=
  { s with pc := target, nextPc := target + 4#32, ifId := flushedIfId, idEx := flushedIdEx, flushes := s.flushes + 2 }

/-- EX on `d = o.ID_EX`, `e = o.EX_MEM`, `m = o.MEM_WB` (R295, R296). -/
def exStage (d : IdEx) (e : ExMem) (m : MemWb) (s : State) : State :=
  if d.valid then
    let a := forwardOperand s.forwarding d.ins.rs1 d.rs1Val e m
    let b := forwardOperand s.forwarding d.ins.rs2 d.rs2Val e m
    let x := executed d a.1 b.1
    let t : State := { s with exMem := x, forwards := s.forwards + a.2 + b.2 }
    if detectBranchHazard x then redirect x.branchTarget t else t
  else { s with exMem := flushedExMem }

/-- ID on the current IF/ID (R297). -/
def idStage (s : State) : State :=
  if s.ifId.valid then
    let i := decodeRecord s.ifId.raw s.ifId.pc
    { s with idEx :=
      { ins := i, rs1Val := readReg s i.rs1, rs2Val := readReg s i.rs2, pc := s.ifId.pc, pc4 := s.ifId.pc4, valid := true } }
  else { s with idEx := flushedIdEx }

/-- IF (R298): fetch at `pc`, then `pc <- next_pc; next_pc <- pc + 4` with the new `pc` (R15). -/
def ifStage (s : State) : State :=
  { countFetch s with
    ifId := { raw := s.mem.readWord s.pc, pc := s.pc, pc4 := s.pc + 4#32, valid := true }
    pc := s.nextPc
    nextPc := s.nextPc + 4#32 }

/-- The bubble of a stalled tick (R290, R299). -/
def stallBubble (s : State) : State := { s with idEx := flushedIdEx, stalls := s.stalls + 1 }

/-! The tick. -/

/-- Step 2 of the tick: `stalled` (R290). -/
def stallNow (s : State) : Bool :=
  s.hazardDetection && detectLoadUse s.idEx (decodeRecord s.ifId.raw s.ifId.pc)

/-- WB, MEM and EX, which every tick runs, on the latches the tick began with (R290, R291). -/
def backEnd (s : State) : State :=
  exStage s.idEx s.exMem s.memWb (memStage s.exMem (wbStage s.memWb { s with stalled := stallNow s }))

/-- One `tick` of the pipeline engine (R290). -/
def tick (s : State) : State :=
  if s.halted then s
  else
    let t := if stallNow s then stallBubble (backEnd s) else ifStage (idStage (backEnd s))
    { t with cycles := t.cycles + 1 }

/-- The status the tick returns (R290, R256): HALTED on a halted engine, else PAUSED if the fetch `pc` after the tick is a
breakpoint, else HALTED if this tick's WB set `halted`, else RUNNING. -/
def tickStatus (s : State) : Status :=
  if s.halted then .halted
  else if s.breakpoints.contains (tick s).pc then .paused
  else if (tick s).halted then .halted
  else .running

end Sys2Proof.Machine
end

