-- ==== Sys2Proof/Machine/Branches.lean ====
section
/-! DEFINITION. 43_branches.md: the six conditional branches (rules R160 to R166). -/

namespace Sys2Proof.Machine

/-- BEQ (R161). -/
def execBeq (rs1 rs2 : RegIdx) (off : BitVec 13) (s : State) : Host.Outcome State Fault Refusal :=
  .next (branchOn .beq rs1 rs2 off s)

/-- BNE (R162). -/
def execBne (rs1 rs2 : RegIdx) (off : BitVec 13) (s : State) : Host.Outcome State Fault Refusal :=
  .next (branchOn .bne rs1 rs2 off s)

/-- BLT (R163). -/
def execBlt (rs1 rs2 : RegIdx) (off : BitVec 13) (s : State) : Host.Outcome State Fault Refusal :=
  .next (branchOn .blt rs1 rs2 off s)

/-- BGE (R164). -/
def execBge (rs1 rs2 : RegIdx) (off : BitVec 13) (s : State) : Host.Outcome State Fault Refusal :=
  .next (branchOn .bge rs1 rs2 off s)

/-- BLTU (R165). -/
def execBltu (rs1 rs2 : RegIdx) (off : BitVec 13) (s : State) : Host.Outcome State Fault Refusal :=
  .next (branchOn .bltu rs1 rs2 off s)

/-- BGEU (R166). -/
def execBgeu (rs1 rs2 : RegIdx) (off : BitVec 13) (s : State) : Host.Outcome State Fault Refusal :=
  .next (branchOn .bgeu rs1 rs2 off s)

end Sys2Proof.Machine
end

