-- ==== Sys2Proof/Machine/Jumps.lean ====
section
/-! DEFINITION. 42_jumps.md: JAL and JALR (rules R150, R151). -/

namespace Sys2Proof.Machine

/-- JAL (R150): `x[rd] <- pc + 4; pc <- pc + imm`. -/
def execJal (rd : RegIdx) (off : BitVec 21) (s : State) : Host.Outcome State Fault Refusal :=
  .next (jumpTo rd (s.pc + sext21 off) s)

/-- JALR (R151): the target uses `x[rs1]` from before the write of `rd`. -/
def execJalr (rd rs1 : RegIdx) (imm : BitVec 12) (s : State) : Host.Outcome State Fault Refusal :=
  .next (jumpTo rd (jalrTarget (readReg s rs1) (sext12 imm)) s)

end Sys2Proof.Machine
end

