-- ==== Sys2Proof/Machine/Loads.lean ====
section
/-! DEFINITION. 44_loads.md: the five loads (rules R170 to R175). -/

namespace Sys2Proof.Machine

/-- LB (R171). -/
def execLb (rd rs1 : RegIdx) (imm : BitVec 12) (s : State) : Host.Outcome State Fault Refusal :=
  .next (loadInto .lb rd rs1 imm s)

/-- LH (R172). -/
def execLh (rd rs1 : RegIdx) (imm : BitVec 12) (s : State) : Host.Outcome State Fault Refusal :=
  .next (loadInto .lh rd rs1 imm s)

/-- LW (R173). -/
def execLw (rd rs1 : RegIdx) (imm : BitVec 12) (s : State) : Host.Outcome State Fault Refusal :=
  .next (loadInto .lw rd rs1 imm s)

/-- LBU (R174). -/
def execLbu (rd rs1 : RegIdx) (imm : BitVec 12) (s : State) : Host.Outcome State Fault Refusal :=
  .next (loadInto .lbu rd rs1 imm s)

/-- LHU (R175). -/
def execLhu (rd rs1 : RegIdx) (imm : BitVec 12) (s : State) : Host.Outcome State Fault Refusal :=
  .next (loadInto .lhu rd rs1 imm s)

end Sys2Proof.Machine
end

