-- ==== Sys2Proof/Machine/MulDiv.lean ====
section
/-! DEFINITION. 48_muldiv.md: the eight multiply and divide instructions (rules R215 to R223). -/

namespace Sys2Proof.Machine

/-- MUL (R216). -/
def execMul (rd rs1 rs2 : RegIdx) (s : State) : Host.Outcome State Fault Refusal :=
  .next (regReg .mul rd rs1 rs2 s)

/-- MULH (R217). -/
def execMulh (rd rs1 rs2 : RegIdx) (s : State) : Host.Outcome State Fault Refusal :=
  .next (regReg .mulh rd rs1 rs2 s)

/-- MULHSU (R218). -/
def execMulhsu (rd rs1 rs2 : RegIdx) (s : State) : Host.Outcome State Fault Refusal :=
  .next (regReg .mulhsu rd rs1 rs2 s)

/-- MULHU (R219). -/
def execMulhu (rd rs1 rs2 : RegIdx) (s : State) : Host.Outcome State Fault Refusal :=
  .next (regReg .mulhu rd rs1 rs2 s)

/-- DIV (R220). -/
def execDiv (rd rs1 rs2 : RegIdx) (s : State) : Host.Outcome State Fault Refusal :=
  .next (regReg .div rd rs1 rs2 s)

/-- DIVU (R221). -/
def execDivu (rd rs1 rs2 : RegIdx) (s : State) : Host.Outcome State Fault Refusal :=
  .next (regReg .divu rd rs1 rs2 s)

/-- REM (R222). -/
def execRem (rd rs1 rs2 : RegIdx) (s : State) : Host.Outcome State Fault Refusal :=
  .next (regReg .rem rd rs1 rs2 s)

/-- REMU (R223). -/
def execRemu (rd rs1 rs2 : RegIdx) (s : State) : Host.Outcome State Fault Refusal :=
  .next (regReg .remu rd rs1 rs2 s)

end Sys2Proof.Machine
end

