-- ==== Sys2Proof/Machine/OpImm.lean ====
section
/-! DEFINITION. 46_op_imm.md: the nine register-immediate instructions (rules R190 to R199). -/

namespace Sys2Proof.Machine

/-- ADDI (R191). -/
def execAddi (rd rs1 : RegIdx) (imm : BitVec 12) (s : State) : Host.Outcome State Fault Refusal :=
  .next (regImm .add rd rs1 (sext12 imm) s)

/-- SLTI (R192). -/
def execSlti (rd rs1 : RegIdx) (imm : BitVec 12) (s : State) : Host.Outcome State Fault Refusal :=
  .next (regImm .slt rd rs1 (sext12 imm) s)

/-- SLTIU (R193). -/
def execSltiu (rd rs1 : RegIdx) (imm : BitVec 12) (s : State) : Host.Outcome State Fault Refusal :=
  .next (regImm .sltu rd rs1 (sext12 imm) s)

/-- XORI (R194). -/
def execXori (rd rs1 : RegIdx) (imm : BitVec 12) (s : State) : Host.Outcome State Fault Refusal :=
  .next (regImm .xor rd rs1 (sext12 imm) s)

/-- ORI (R195). -/
def execOri (rd rs1 : RegIdx) (imm : BitVec 12) (s : State) : Host.Outcome State Fault Refusal :=
  .next (regImm .or rd rs1 (sext12 imm) s)

/-- ANDI (R196). -/
def execAndi (rd rs1 : RegIdx) (imm : BitVec 12) (s : State) : Host.Outcome State Fault Refusal :=
  .next (regImm .and rd rs1 (sext12 imm) s)

/-- SLLI (R197). -/
def execSlli (rd rs1 : RegIdx) (shamt : BitVec 5) (s : State) : Host.Outcome State Fault Refusal :=
  .next (regImm .sll rd rs1 (shamtWord shamt) s)

/-- SRLI (R198). -/
def execSrli (rd rs1 : RegIdx) (shamt : BitVec 5) (s : State) : Host.Outcome State Fault Refusal :=
  .next (regImm .srl rd rs1 (shamtWord shamt) s)

/-- SRAI (R199). -/
def execSrai (rd rs1 : RegIdx) (shamt : BitVec 5) (s : State) : Host.Outcome State Fault Refusal :=
  .next (regImm .sra rd rs1 (shamtWord shamt) s)

end Sys2Proof.Machine
end

