-- ==== Sys2Proof/Machine/OpReg.lean ====
section
/-! DEFINITION. 47_op.md: the ten base register-register instructions (rules R200 to R210). -/

namespace Sys2Proof.Machine

/-- ADD (R201). -/
def execAdd (rd rs1 rs2 : RegIdx) (s : State) : Host.Outcome State Fault Refusal :=
  .next (regReg .add rd rs1 rs2 s)

/-- SUB (R202). -/
def execSub (rd rs1 rs2 : RegIdx) (s : State) : Host.Outcome State Fault Refusal :=
  .next (regReg .sub rd rs1 rs2 s)

/-- SLL (R203). -/
def execSll (rd rs1 rs2 : RegIdx) (s : State) : Host.Outcome State Fault Refusal :=
  .next (regReg .sll rd rs1 rs2 s)

/-- SLT (R204). -/
def execSlt (rd rs1 rs2 : RegIdx) (s : State) : Host.Outcome State Fault Refusal :=
  .next (regReg .slt rd rs1 rs2 s)

/-- SLTU (R205). -/
def execSltu (rd rs1 rs2 : RegIdx) (s : State) : Host.Outcome State Fault Refusal :=
  .next (regReg .sltu rd rs1 rs2 s)

/-- XOR (R206). -/
def execXor (rd rs1 rs2 : RegIdx) (s : State) : Host.Outcome State Fault Refusal :=
  .next (regReg .xor rd rs1 rs2 s)

/-- SRL (R207). -/
def execSrl (rd rs1 rs2 : RegIdx) (s : State) : Host.Outcome State Fault Refusal :=
  .next (regReg .srl rd rs1 rs2 s)

/-- SRA (R208). -/
def execSra (rd rs1 rs2 : RegIdx) (s : State) : Host.Outcome State Fault Refusal :=
  .next (regReg .sra rd rs1 rs2 s)

/-- OR (R209). -/
def execOr (rd rs1 rs2 : RegIdx) (s : State) : Host.Outcome State Fault Refusal :=
  .next (regReg .or rd rs1 rs2 s)

/-- AND (R210). -/
def execAnd (rd rs1 rs2 : RegIdx) (s : State) : Host.Outcome State Fault Refusal :=
  .next (regReg .and rd rs1 rs2 s)

end Sys2Proof.Machine
end

