-- ==== Sys2Proof/Machine/Stores.lean ====
section
/-! DEFINITION. 45_stores.md: the three stores (rules R180 to R183). -/

namespace Sys2Proof.Machine

/-- SB (R181). -/
def execSb (rs1 rs2 : RegIdx) (imm : BitVec 12) (s : State) : Host.Outcome State Fault Refusal :=
  .next (storeFrom .sb rs1 rs2 imm s)

/-- SH (R182). -/
def execSh (rs1 rs2 : RegIdx) (imm : BitVec 12) (s : State) : Host.Outcome State Fault Refusal :=
  .next (storeFrom .sh rs1 rs2 imm s)

/-- SW (R183). -/
def execSw (rs1 rs2 : RegIdx) (imm : BitVec 12) (s : State) : Host.Outcome State Fault Refusal :=
  .next (storeFrom .sw rs1 rs2 imm s)

end Sys2Proof.Machine
end

