-- ==== Sys2Proof/Machine/System.lean ====
section
/-! DEFINITION. 49_system.md: ECALL, EBREAK, and the words that are no instruction (rules R230 to R235). -/

namespace Sys2Proof.Machine

/-- ECALL (R121, R230): the engine halts; `pc` stays at the ECALL, and the two counters count it. -/
def execEcall (s : State) : Host.Outcome State Fault Refusal :=
  .next (halt (retireAt s.pc s))

/-- EBREAK (R231, decision D16): no effect but to advance. -/
def execEbreak (s : State) : Host.Outcome State Fault Refusal :=
  .next (passBy s)

/-- A word of the MISC-MEM opcode, FENCE and FENCE.I among them (R234, decision D15): a bubble. -/
def execFence (_bits : BitVec 25) (s : State) : Host.Outcome State Fault Refusal :=
  .next (passBy s)

/-- A word that is no instruction (R233): "a NOP-like bubble" that advances `pc`. -/
def execUnknown (_w : Word) (s : State) : Host.Outcome State Fault Refusal :=
  .next (passBy s)

end Sys2Proof.Machine
end

