-- ==== Sys2Proof/Machine/UpperImmediate.lean ====
section
/-! DEFINITION. 41_upper_immediate.md: LUI and AUIPC (rules R140, R141). -/

namespace Sys2Proof.Machine

/-- LUI (R140): `x[rd] <- imm`. -/
def execLui (rd : RegIdx) (imm20 : BitVec 20) (s : State) : Host.Outcome State Fault Refusal :=
  .next (writeResult rd (upperImm imm20) s)

/-- AUIPC (R141): `x[rd] <- (pc + imm) mod 2^32`, with the address of the AUIPC itself. -/
def execAuipc (rd : RegIdx) (imm20 : BitVec 20) (s : State) : Host.Outcome State Fault Refusal :=
  .next (writeResult rd (s.pc + upperImm imm20) s)

end Sys2Proof.Machine
end

