-- ==== Sys2Proof/Machine/SingleCycle.lean ====
section
/-! DEFINITION. The single-cycle engine's step (40_alu_and_datapath.md rules R120 to R122) and the status it returns. -/

namespace Sys2Proof.Machine

/-- The word at `pc`: `MemRead(pc, 4)`, at any alignment (R46, R120). -/
def fetchWord (s : State) : Word := s.mem.readWord s.pc

/-- One `step` of the single-cycle engine (R120): a halted engine does nothing; else fetch (which may move the memory's read
counter, R55), decode, and the instruction's meaning. -/
def singleStep (s : State) : Host.Outcome State Fault Refusal :=
  if s.halted then .next s else exec (decodeWord (fetchWord s)) (countFetch s)

/-- The status `step` returns (R120): HALTED on a halted engine and on ECALL, else PAUSED if the new `pc` is a breakpoint.
The last arm is never reached: every instruction answers a next state. -/
def singleStatus (s : State) : Status :=
  if s.halted then .halted
  else
    match singleStep s with
    | .next t => if t.halted then .halted else if s.breakpoints.contains t.pc then .paused else .running
    | .fault _ | .refused _ => .running

end Sys2Proof.Machine
end

