-- ==== Sys2Proof/Machine/Step.lean ====
section
/-! DEFINITION. One step of the machine: one tick of the pipeline engine (the hardware), or one step of the single-cycle engine
where that one is selected (00_scope.md rules R2, R7). -/

namespace Sys2Proof.Machine

/-- One cycle (R7). -/
def step (s : State) : Host.Outcome State Fault Refusal :=
  match s.engine with
  | .pipeline => .next (tick s)
  | .singleCycle => singleStep s

/-- `s` with an instruction word stored at `pc`, and what it takes for the very next step to run that instruction whole: the
engine that runs one instruction a step (in the pipeline a tick fetches the word and the next four ticks carry it through ID,
EX, MEM and WB) and an engine that is not halted (assumption log 3). -/
def State.withFetchWord (s : State) (nbits w : Nat) : State :=
  { s with
    mem := s.mem.writeWord s.pc (BitVec.ofNat 32 (w % 2 ^ nbits))
    engine := .singleCycle
    halted := false }

end Sys2Proof.Machine
end

