-- ==== Sys2Proof/Machine/HostInterface.lean ====
section
/-! DEFINITION. What the outside world can do to the block (00_scope.md rule R6): `reset` with the reset-time parameters (R57,
R270, R272), the two configuration inputs (R17, R317), the breakpoint set (R256), and the status a step returns. -/

namespace Sys2Proof.Machine

/-- The status the selected engine returns for one step (R6, R120, R290). -/
def stepStatus (s : State) : Status :=
  match s.engine with
  | .pipeline => tickStatus s
  | .singleCycle => singleStatus s

/-- The text image as consecutive little-endian words (R57). -/
def placeWords (m : Memory) (a : Address) : List Word → Memory
  | [] => m
  | w :: ws => placeWords (m.writeWord a w) (a + 4#32) ws

/-- The data image as consecutive bytes (R57). -/
def placeBytes (m : Memory) (a : Address) : List Byte → Memory
  | [] => m
  | b :: bs => placeBytes (m.writeByte a b) (a + 1#32) bs

/-- Every byte 0, then `IMAGE` (R30, R57): the text words, then the data bytes. DESIGN CHOICE (assumption log 31): where the two
images overlap, which the spec does not speak of, the data byte stands. -/
def launchMemory (p : LaunchParams) : Memory :=
  placeBytes (placeWords [] Config.textBase p.textImage) Config.dataBase p.dataImage

/-- The `reset` input (R270): every piece of state at its launch value but the two configuration inputs and the breakpoints,
which it does not change, and the choice of engine (R2, D25). -/
def resetInput (p : LaunchParams) (s : State) : State :=
  { State.reset with
    regs := (Vector.replicate 32 0#32).set 2 p.spInit
    pc := p.resetPc
    nextPc := p.resetPc + 4#32
    mem := launchMemory p
    hazardDetection := s.hazardDetection
    forwarding := s.forwarding
    breakpoints := s.breakpoints
    engine := s.engine }

/-- The host sets the `hazard_detection` input (R17, R317): nothing else changes. -/
def setHazardDetection (on : Bool) (s : State) : State := { s with hazardDetection := on }

/-- The host sets the `forwarding` input (R17, R317): nothing else changes. -/
def setForwarding (on : Bool) (s : State) : State := { s with forwarding := on }

/-- The host sets `BREAKPOINTS` (R256): nothing else changes. -/
def setBreakpoints (b : List Address) (s : State) : State := { s with breakpoints := b }

end Sys2Proof.Machine
end

