-- ==== Sys2Proof/Safety.lean ====
section
/-! DEFINITION. The terms in which claims are stated: the invariant of the machine, what an instruction may write, and the
view of the pipeline as a machine that has completed the instructions behind EX (70_reset_and_hazards.md rules R310 to R316).
There is no fault to be safe from: the step function is total (60_exceptions.md rule R241). -/

namespace Sys2Proof.Safety

open Sys2Proof.Machine

/-! What an instruction writes. -/

/-- The destination register of an instruction: the kinds with `reg_write` (R81) have one. -/
def destOf : Instr → Option RegIdx
  | .lui rd _ | .auipc rd _ => some rd
  | .jal rd _ => some rd
  | .jalr rd _ _ => some rd
  | .beq _ _ _ | .bne _ _ _ | .blt _ _ _ | .bge _ _ _ | .bltu _ _ _ | .bgeu _ _ _ => none
  | .lb rd _ _ | .lh rd _ _ | .lw rd _ _ | .lbu rd _ _ | .lhu rd _ _ => some rd
  | .sb _ _ _ | .sh _ _ _ | .sw _ _ _ => none
  | .addi rd _ _ | .slti rd _ _ | .sltiu rd _ _ | .xori rd _ _ | .ori rd _ _ | .andi rd _ _ => some rd
  | .slli rd _ _ | .srli rd _ _ | .srai rd _ _ => some rd
  | .add rd _ _ | .sub rd _ _ | .sll rd _ _ | .slt rd _ _ | .sltu rd _ _ | .xor rd _ _ | .srl rd _ _ | .sra rd _ _
  | .or rd _ _ | .and rd _ _ => some rd
  | .mul rd _ _ | .mulh rd _ _ | .mulhsu rd _ _ | .mulhu rd _ _ | .div rd _ _ | .divu rd _ _ | .rem rd _ _
  | .remu rd _ _ => some rd
  | .ecall | .ebreak | .fence _ | .unknown _ => none

/-- Where an instruction stores, and how many bytes: the effective address of the meaning (R180) and the width (R47). -/
def storeOf (i : Instr) (s : State) : Option (Address × Nat) :=
  match i with
  | .sb rs1 _ imm => some (effectiveAddress s rs1 imm, 1)
  | .sh rs1 _ imm => some (effectiveAddress s rs1 imm, 2)
  | .sw rs1 _ imm => some (effectiveAddress s rs1 imm, 4)
  | _ => none

/-- `b` is one of the `n` bytes from `a` on, the addresses wrapping modulo 2^32 (R44, R45). -/
def inBytes (a : Address) (n : Nat) (b : Address) : Prop := ∃ k, k < n ∧ b = a + BitVec.ofNat 32 k

/-! The invariant. -/

/-- An invalid latch holds the flushed value (R24); a valid IF/ID has `pc4 = pc + 4` (R21). -/
def IfIdOk (f : IfId) : Prop := (f.valid = false → f = flushedIfId) ∧ (f.valid = true → f.pc4 = f.pc + 4#32)

/-- A valid ID/EX holds the decoding of a word at its own address (R22, R297). -/
def IdExOk (d : IdEx) : Prop :=
  (d.valid = false → d = flushedIdEx) ∧
  (d.valid = true → d.ins = decodeRecord d.ins.raw d.pc ∧ d.pc4 = d.pc + 4#32)

/-- A valid EX/MEM holds a decoded instruction, and says `branch_taken` only of a branch or a jump (R23, R296). -/
def ExMemOk (e : ExMem) : Prop :=
  (e.valid = false → e = flushedExMem) ∧
  (e.valid = true → e.ins = decodeRecord e.ins.raw e.ins.pc ∧ (e.branchTaken = true → e.ins.branch = true ∨ e.ins.jump = true))

/-- A valid MEM/WB holds a decoded instruction; its `mem_data` is 0 unless it is a load (R23, R294). -/
def MemWbOk (m : MemWb) : Prop :=
  (m.valid = false → m = flushedMemWb) ∧
  (m.valid = true → m.ins = decodeRecord m.ins.raw m.ins.pc ∧ (m.ins.memRead = false → m.memData = 0#32))

/-- 1 for a valid latch, 0 for a bubble. -/
def occupied (valid : Bool) : Nat := if valid then 1 else 0

/-- The invariant of the machine, for either engine. -/
structure Inv (s : State) : Prop where
  /-- memory is in canonical form -/
  memWf : s.mem.wf
  /-- the stored value of `x0` is never changed (R10, R20) -/
  x0Stored : s.regs[0] = 0#32
  ifIdOk : IfIdOk s.ifId
  idExOk : IdExOk s.idEx
  exMemOk : ExMemOk s.exMem
  memWbOk : MemWbOk s.memWb
  /-- "At the end of every tick, and in the launch state, `next_pc = pc + 4`" (R15) -/
  nextPcFollows : s.engine = .pipeline → s.nextPc = s.pc + 4#32
  /-- an instruction in ID/EX has one behind it in IF/ID (R298: IF fetches in every unstalled tick) -/
  fetchedBehind : s.idEx.valid = true → s.ifId.valid = true
  /-- "`flushes` is always even" (R316) -/
  flushesEven : s.flushes % 2 = 0
  /-- every cycle brings at most one instruction, stall bubble or flush bubble down the pipeline: the inequality behind
  "`instructions ≤ cycles`" and behind the exact relation of R316 -/
  conservation :
    s.instructions + s.stalls + s.flushes / 2 + occupied s.ifId.valid + occupied s.idEx.valid + occupied s.exMem.valid ≤ s.cycles

/-! The pipeline as a machine that executes one instruction at a time. -/

/-- The latches hold consecutive instructions of one path, and the operands latched in ID are the register file's (R297, R298,
R300). -/
structure Flow (s : State) : Prop where
  nextPcFollows : s.nextPc = s.pc + 4#32
  pcFollows : s.ifId.valid = true → s.pc = s.ifId.pc + 4#32
  idExFollows : s.idEx.valid = true → s.ifId.valid = true ∧ s.ifId.pc = s.idEx.pc + 4#32
  operand1 : s.idEx.valid = true → s.idEx.rs1Val = readReg s s.idEx.ins.rs1
  operand2 : s.idEx.valid = true → s.idEx.rs2Val = readReg s s.idEx.ins.rs2

/-- No instruction in ID/EX names the destination of a load in EX/MEM: what the load-use stall brings about (R280, R303). -/
def LoadUseSafe (s : State) : Prop :=
  s.idEx.valid = true → s.exMem.valid = true → s.exMem.ins.memRead = true → s.exMem.ins.rd ≠ 0#5 →
    s.idEx.ins.rs1 ≠ s.exMem.ins.rd ∧ s.idEx.ins.rs2 ≠ s.exMem.ins.rd

/-- No ECALL has passed EX (R230, R314). -/
def NoEcallPastEx (s : State) : Prop :=
  (s.exMem.valid = true → s.exMem.ins.kind ≠ .ecall) ∧ (s.memWb.valid = true → s.memWb.ins.kind ≠ .ecall)

/-- The state once the instructions in MEM/WB and EX/MEM have completed MEM and WB; its registers and memory are those a
one-instruction-at-a-time machine has before the instruction in ID/EX. -/
def drained (s : State) : State :=
  let t := memStage s.exMem (wbStage s.memWb s)
  wbStage t.memWb t

/-- The address of the next instruction to execute: the oldest instruction that has not passed EX. -/
def nextToExecute (s : State) : Address :=
  if s.idEx.valid then s.idEx.pc else if s.ifId.valid then s.ifId.pc else s.pc

/-- The single-cycle engine `r` stands where the pipeline `s` stands: same registers and memory, `pc` at the next instruction
to execute. -/
structure InStep (s r : State) : Prop where
  engine : r.engine = .singleCycle
  running : r.halted = false
  regs : r.regs = (drained s).regs
  mem : r.mem = (drained s).mem
  pc : r.pc = nextToExecute s

/-- The word in ID/EX is still the word in memory at its address when it executes (condition 3 of R310: no store into an
instruction already fetched, R313). -/
def FetchCoherent (s : State) : Prop :=
  s.idEx.valid = true → s.idEx.ins.raw = (drained s).mem.readWord s.idEx.pc

/-- `n` ticks of the pipeline engine. -/
def ticks : Nat → State → State
  | 0, s => s
  | n + 1, s => ticks n (tick s)

/-- Along the first `n` ticks no ECALL is executed and every executed word is the word in memory. -/
def CoherentFor : Nat → State → Prop
  | 0, _ => True
  | n + 1, s =>
    FetchCoherent s ∧ (s.idEx.valid = true → s.idEx.ins.kind ≠ .ecall) ∧ CoherentFor n (tick s)

/-- The state with every counter at 0 (R18, R55). -/
def withoutCounters (s : State) : State :=
  { s with cycles := 0, instructions := 0, stalls := 0, flushes := 0, forwards := 0, memReads := 0, memWrites := 0 }

end Sys2Proof.Safety
end

