-- ==== Sys2Proof/Certificates/Slice0/Obligations.lean ====
section
/-! DEFINITION. The statements for the provers. Each says in its docstring which rules of spec/ it formalises. -/

open Sys2Proof Sys2Proof.Machine Sys2Proof.Safety

/-- Words printed in the spec and what they stand for (sanity). V22 and R234 give `0x0FF0000F` kind UNKNOWN; that such a word has the constructor `fence` is the model's choice (assumption log 10). -/
def Obligations.SampleWordsDecode : Prop :=
  decodeWord 0x123452B7#32 = .lui 5#5 0x12345#20 ∧
  decodeWord 0x00001297#32 = .auipc 5#5 0x00001#20 ∧
  decodeWord 0xFF9FF06F#32 = .jal 0#5 (BitVec.ofInt 21 (-8)) ∧
  decodeWord 0x003280E7#32 = .jalr 1#5 5#5 3#12 ∧
  decodeWord 0xFE6288E3#32 = .beq 5#5 6#5 (BitVec.ofInt 13 (-16)) ∧
  decodeWord 0x0062F863#32 = .bgeu 5#5 6#5 16#13 ∧
  decodeWord 0xFFC2A303#32 = .lw 6#5 5#5 (BitVec.ofInt 12 (-4)) ∧
  decodeWord 0xFE62AE23#32 = .sw 5#5 6#5 (BitVec.ofInt 12 (-4)) ∧
  decodeWord 0xFFF28313#32 = .addi 6#5 5#5 (BitVec.ofInt 12 (-1)) ∧
  decodeWord 0x4042D313#32 = .srai 6#5 5#5 4#5 ∧
  decodeWord 0x406283B3#32 = .sub 7#5 5#5 6#5 ∧
  decodeWord 0x0262A3B3#32 = .mulhsu 7#5 5#5 6#5 ∧
  decodeWord 0x00000073#32 = .ecall ∧
  decodeWord 0x00100073#32 = .ebreak ∧
  decodeWord 0x7E005013#32 = .srai 0#5 0#5 0#5 ∧
  decodeWord 0x40001033#32 = .sll 0#5 0#5 0#5 ∧
  decodeWord 0x000110F3#32 = .ecall ∧
  decodeWord 0x0FF0000F#32 = .fence 0x1FE000#25 ∧
  decodeWord 0x30200073#32 = .unknown 0x30200073#32

/-- Decode and encode agree for every well-formed instruction (R82, R89), through the little-endian bytes (R41, R70). -/
def Obligations.DecodeInvertsEncode : Prop :=
  ∀ (i : Instr) (rest : List Byte), i.wellFormed = true →
    decodeBytes (bytesOfWord (encode i) ++ rest) = .ok (i, rest)

/-- The round trip of R89 on the canonical words; the second clause, on the extra words of R83 "which an encoder maps to the canonical word of their kind", is the inference R89 draws from R82 and R83. -/
def Obligations.CanonicalWordsReencode : Prop :=
  (∀ w : Word, isCanonical w = true → encode (decodeWord w) = w) ∧
  (∀ w : Word, (decodeWord w).kind ≠ .unknown →
    isCanonical (encode (decodeWord w)) = true ∧ decodeWord (encode (decodeWord w)) = decodeWord w)

/-- The inference at the end of R90: the table decoder (priority order, `decoder_match` and `decoder_mask`) agrees with R80 on every word. -/
def Obligations.TableDecoderAgrees : Prop :=
  ∀ w : Word, tableKind w = (decodeWord w).kind

/-- The exact list of R84 (which the spec derives from R80). The second clause, that the UNKNOWN words of the MISC-MEM opcode have the constructor `fence` and all others `unknown`, is the model's choice (assumption log 10); the third is WellFormed.lean's (assumption log 25). -/
def Obligations.UnknownWordsAreExactlyThese : Prop :=
  ∀ w : Word,
    ((decodeWord w).kind = .unknown ↔
      opcodeOf w ∉ [0b0110111#7, 0b0010111#7, 0b1101111#7, 0b1100111#7, 0b1100011#7, 0b0000011#7, 0b0100011#7,
        0b0010011#7, 0b0110011#7, 0b1110011#7] ∨
      (opcodeOf w = 0b1100011#7 ∧ funct3Of w ∈ [0b010#3, 0b011#3]) ∨
      (opcodeOf w = 0b0000011#7 ∧ funct3Of w ∈ [0b011#3, 0b110#3, 0b111#3]) ∨
      (opcodeOf w = 0b0100011#7 ∧ funct3Of w ∈ [0b011#3, 0b100#3, 0b101#3, 0b110#3, 0b111#3]) ∨
      (opcodeOf w = 0b1110011#7 ∧ immIOf w ≠ 0#12 ∧ immIOf w ≠ 1#12)) ∧
    (decodeWord w = .unknown w ↔ (decodeWord w).kind = .unknown ∧ opcodeOf w ≠ 0b0001111#7) ∧
    (decodeWord w).wellFormed = true

/-- Decoder purity (R85). -/
def Obligations.DecodingIgnoresThePc : Prop :=
  ∀ (w : Word) (p q : Address), decodeRecord w q = { decodeRecord w p with pc := q }

/-- The record invariants of R20 and R72 to R78 (the raw fields are the spec's decision D10, part of R20 is its inference). -/
def Obligations.DecodedRecordInvariants : Prop :=
  ∀ (w : Word) (p : Address),
    let d := decodeRecord w p
    d.raw = w ∧ d.pc = p ∧ d.rd = w.extractLsb' 7 5 ∧ d.rs1 = w.extractLsb' 15 5 ∧ d.rs2 = w.extractLsb' 20 5 ∧
    d.memToReg = d.memRead ∧
    d.memRead.toNat + d.memWrite.toNat + d.branch.toNat + d.jump.toNat ≤ 1 ∧
    (d.branch = true ∨ d.kind = .jal → d.imm.toNat % 2 = 0) ∧
    (d.kind = .lui ∨ d.kind = .auipc → d.imm.toNat % 4096 = 0) ∧
    (d.kind = .slli ∨ d.kind = .srli ∨ d.kind = .srai → d.imm.toNat < 32)

/-- R140 and R141, for every operand and every state. -/
def Obligations.UpperImmediateResults : Prop :=
  ∀ (rd : RegIdx) (imm20 : BitVec 20) (s : State),
    exec (.lui rd imm20) s = .next { writeReg rd (BitVec.ofNat 32 (imm20.toNat * 4096)) s with
      pc := s.pc + 4#32, cycles := s.cycles + 1, instructions := s.instructions + 1 } ∧
    exec (.auipc rd imm20) s = .next { writeReg rd (BitVec.ofNat 32 (s.pc.toNat + imm20.toNat * 4096)) s with
      pc := s.pc + 4#32, cycles := s.cycles + 1, instructions := s.instructions + 1 }

/-- R150 and R151: the target of JALR uses x[rs1] from before the write of rd, and loses its bit 0. -/
def Obligations.JumpResults : Prop :=
  (∀ (rd : RegIdx) (off : BitVec 21) (s : State),
    exec (.jal rd off) s = .next { writeReg rd (s.pc + 4#32) s with
      pc := BitVec.ofInt 32 (s.pc.toInt + off.toInt), cycles := s.cycles + 1, instructions := s.instructions + 1 }) ∧
  (∀ (rd rs1 : RegIdx) (imm : BitVec 12) (s : State),
    exec (.jalr rd rs1 imm) s = .next { writeReg rd (s.pc + 4#32) s with
      pc := BitVec.ofNat 32 (2 * ((BitVec.ofInt 32 ((readReg s rs1).toInt + imm.toInt)).toNat / 2))
      cycles := s.cycles + 1, instructions := s.instructions + 1 })

/-- R113 and R160 to R166, for every operand and every state. -/
def Obligations.BranchResults : Prop :=
  ∀ (rs1 rs2 : RegIdx) (off : BitVec 13) (s : State),
    exec (.beq rs1 rs2 off) s = .next { s with
      pc := if readReg s rs1 = readReg s rs2 then BitVec.ofInt 32 (s.pc.toInt + off.toInt) else s.pc + 4#32
      cycles := s.cycles + 1, instructions := s.instructions + 1 } ∧
    exec (.bne rs1 rs2 off) s = .next { s with
      pc := if readReg s rs1 ≠ readReg s rs2 then BitVec.ofInt 32 (s.pc.toInt + off.toInt) else s.pc + 4#32
      cycles := s.cycles + 1, instructions := s.instructions + 1 } ∧
    exec (.blt rs1 rs2 off) s = .next { s with
      pc := if (readReg s rs1).toInt < (readReg s rs2).toInt then BitVec.ofInt 32 (s.pc.toInt + off.toInt) else s.pc + 4#32
      cycles := s.cycles + 1, instructions := s.instructions + 1 } ∧
    exec (.bge rs1 rs2 off) s = .next { s with
      pc := if (readReg s rs2).toInt ≤ (readReg s rs1).toInt then BitVec.ofInt 32 (s.pc.toInt + off.toInt) else s.pc + 4#32
      cycles := s.cycles + 1, instructions := s.instructions + 1 } ∧
    exec (.bltu rs1 rs2 off) s = .next { s with
      pc := if (readReg s rs1).toNat < (readReg s rs2).toNat then BitVec.ofInt 32 (s.pc.toInt + off.toInt) else s.pc + 4#32
      cycles := s.cycles + 1, instructions := s.instructions + 1 } ∧
    exec (.bgeu rs1 rs2 off) s = .next { s with
      pc := if (readReg s rs2).toNat ≤ (readReg s rs1).toNat then BitVec.ofInt 32 (s.pc.toInt + off.toInt) else s.pc + 4#32
      cycles := s.cycles + 1, instructions := s.instructions + 1 }

/-- R170 to R175; the read counter moves by the open amount of the model (assumption log 4). -/
def Obligations.LoadResults : Prop :=
  ∀ (rd rs1 : RegIdx) (imm : BitVec 12) (s : State),
    let a := effectiveAddress s rs1 imm
    a = BitVec.ofInt 32 ((readReg s rs1).toInt + imm.toInt) ∧
    exec (.lb rd rs1 imm) s = .next { writeReg rd ((s.mem.readByte a).signExtend 32) s with
      pc := s.pc + 4#32, cycles := s.cycles + 1, instructions := s.instructions + 1,
      memReads := s.memReads + accessCount 1 } ∧
    exec (.lbu rd rs1 imm) s = .next { writeReg rd ((s.mem.readByte a).setWidth 32) s with
      pc := s.pc + 4#32, cycles := s.cycles + 1, instructions := s.instructions + 1,
      memReads := s.memReads + accessCount 1 } ∧
    exec (.lh rd rs1 imm) s = .next { writeReg rd ((s.mem.readByte (a + 1#32) ++ s.mem.readByte a).signExtend 32) s with
      pc := s.pc + 4#32, cycles := s.cycles + 1, instructions := s.instructions + 1,
      memReads := s.memReads + accessCount 2 } ∧
    exec (.lhu rd rs1 imm) s = .next { writeReg rd ((s.mem.readByte (a + 1#32) ++ s.mem.readByte a).setWidth 32) s with
      pc := s.pc + 4#32, cycles := s.cycles + 1, instructions := s.instructions + 1,
      memReads := s.memReads + accessCount 2 } ∧
    exec (.lw rd rs1 imm) s = .next { writeReg rd (s.mem.readByte (a + 3#32) ++ s.mem.readByte (a + 2#32) ++ s.mem.readByte (a + 1#32) ++ s.mem.readByte a) s with
      pc := s.pc + 4#32, cycles := s.cycles + 1, instructions := s.instructions + 1,
      memReads := s.memReads + accessCount 4 }

/-- R180 to R183; the write counter moves by the open amount of the model (assumption log 4). -/
def Obligations.StoreResults : Prop :=
  ∀ (rs1 rs2 : RegIdx) (imm : BitVec 12) (s : State),
    let a := effectiveAddress s rs1 imm
    a = BitVec.ofInt 32 ((readReg s rs1).toInt + imm.toInt) ∧
    (∃ t, exec (.sb rs1 rs2 imm) s = .next t ∧
      t.mem.readByte (a + 0#32) = (readReg s rs2).extractLsb' 0 8 ∧
      (∀ b, ¬ inBytes a 1 b → t.mem.readByte b = s.mem.readByte b) ∧
      t = { s with
        mem := t.mem, memWrites := s.memWrites + accessCount 1
        pc := s.pc + 4#32, cycles := s.cycles + 1, instructions := s.instructions + 1 }) ∧
    (∃ t, exec (.sh rs1 rs2 imm) s = .next t ∧
      t.mem.readByte (a + 0#32) = (readReg s rs2).extractLsb' 0 8 ∧ t.mem.readByte (a + 1#32) = (readReg s rs2).extractLsb' 8 8 ∧
      (∀ b, ¬ inBytes a 2 b → t.mem.readByte b = s.mem.readByte b) ∧
      t = { s with
        mem := t.mem, memWrites := s.memWrites + accessCount 2
        pc := s.pc + 4#32, cycles := s.cycles + 1, instructions := s.instructions + 1 }) ∧
    (∃ t, exec (.sw rs1 rs2 imm) s = .next t ∧
      t.mem.readByte (a + 0#32) = (readReg s rs2).extractLsb' 0 8 ∧ t.mem.readByte (a + 1#32) = (readReg s rs2).extractLsb' 8 8 ∧ t.mem.readByte (a + 2#32) = (readReg s rs2).extractLsb' 16 8 ∧ t.mem.readByte (a + 3#32) = (readReg s rs2).extractLsb' 24 8 ∧
      (∀ b, ¬ inBytes a 4 b → t.mem.readByte b = s.mem.readByte b) ∧
      t = { s with
        mem := t.mem, memWrites := s.memWrites + accessCount 4
        pc := s.pc + 4#32, cycles := s.cycles + 1, instructions := s.instructions + 1 })

/-- R190 to R196, for every operand and every state. -/
def Obligations.ImmediateResults : Prop :=
  ∀ (rd rs1 : RegIdx) (imm : BitVec 12) (s : State),
    exec (.addi rd rs1 imm) s = .next { writeReg rd (BitVec.ofInt 32 ((readReg s rs1).toInt + imm.toInt)) s with
      pc := s.pc + 4#32, cycles := s.cycles + 1, instructions := s.instructions + 1 } ∧
    exec (.slti rd rs1 imm) s = .next { writeReg rd (if (readReg s rs1).toInt < imm.toInt then 1#32 else 0#32) s with
      pc := s.pc + 4#32, cycles := s.cycles + 1, instructions := s.instructions + 1 } ∧
    exec (.sltiu rd rs1 imm) s = .next { writeReg rd (if (readReg s rs1).toNat < (imm.signExtend 32).toNat then 1#32 else 0#32) s with
      pc := s.pc + 4#32, cycles := s.cycles + 1, instructions := s.instructions + 1 } ∧
    exec (.xori rd rs1 imm) s = .next { writeReg rd ((readReg s rs1) ^^^ imm.signExtend 32) s with
      pc := s.pc + 4#32, cycles := s.cycles + 1, instructions := s.instructions + 1 } ∧
    exec (.ori rd rs1 imm) s = .next { writeReg rd ((readReg s rs1) ||| imm.signExtend 32) s with
      pc := s.pc + 4#32, cycles := s.cycles + 1, instructions := s.instructions + 1 } ∧
    exec (.andi rd rs1 imm) s = .next { writeReg rd ((readReg s rs1) &&& imm.signExtend 32) s with
      pc := s.pc + 4#32, cycles := s.cycles + 1, instructions := s.instructions + 1 }

/-- R197 to R199, for every operand and every state. -/
def Obligations.ImmediateShiftResults : Prop :=
  ∀ (rd rs1 : RegIdx) (shamt : BitVec 5) (s : State),
    exec (.slli rd rs1 shamt) s = .next { writeReg rd (BitVec.ofNat 32 ((readReg s rs1).toNat * 2 ^ shamt.toNat)) s with
      pc := s.pc + 4#32, cycles := s.cycles + 1, instructions := s.instructions + 1 } ∧
    exec (.srli rd rs1 shamt) s = .next { writeReg rd (BitVec.ofNat 32 ((readReg s rs1).toNat / 2 ^ shamt.toNat)) s with
      pc := s.pc + 4#32, cycles := s.cycles + 1, instructions := s.instructions + 1 } ∧
    exec (.srai rd rs1 shamt) s = .next { writeReg rd (BitVec.ofInt 32 ((readReg s rs1).toInt / 2 ^ shamt.toNat)) s with
      pc := s.pc + 4#32, cycles := s.cycles + 1, instructions := s.instructions + 1 }

/-- R200 to R210, for every operand and every state. -/
def Obligations.RegisterResults : Prop :=
  ∀ (rd rs1 rs2 : RegIdx) (s : State),
    exec (.add rd rs1 rs2) s = .next { writeReg rd (BitVec.ofNat 32 ((readReg s rs1).toNat + (readReg s rs2).toNat)) s with
      pc := s.pc + 4#32, cycles := s.cycles + 1, instructions := s.instructions + 1 } ∧
    exec (.sub rd rs1 rs2) s = .next { writeReg rd (BitVec.ofInt 32 (((readReg s rs1).toNat : Int) - ((readReg s rs2).toNat : Int))) s with
      pc := s.pc + 4#32, cycles := s.cycles + 1, instructions := s.instructions + 1 } ∧
    exec (.sll rd rs1 rs2) s = .next { writeReg rd (BitVec.ofNat 32 ((readReg s rs1).toNat * 2 ^ ((readReg s rs2).toNat % 32))) s with
      pc := s.pc + 4#32, cycles := s.cycles + 1, instructions := s.instructions + 1 } ∧
    exec (.slt rd rs1 rs2) s = .next { writeReg rd (if (readReg s rs1).toInt < (readReg s rs2).toInt then 1#32 else 0#32) s with
      pc := s.pc + 4#32, cycles := s.cycles + 1, instructions := s.instructions + 1 } ∧
    exec (.sltu rd rs1 rs2) s = .next { writeReg rd (if (readReg s rs1).toNat < (readReg s rs2).toNat then 1#32 else 0#32) s with
      pc := s.pc + 4#32, cycles := s.cycles + 1, instructions := s.instructions + 1 } ∧
    exec (.xor rd rs1 rs2) s = .next { writeReg rd ((readReg s rs1) ^^^ (readReg s rs2)) s with
      pc := s.pc + 4#32, cycles := s.cycles + 1, instructions := s.instructions + 1 } ∧
    exec (.srl rd rs1 rs2) s = .next { writeReg rd (BitVec.ofNat 32 ((readReg s rs1).toNat / 2 ^ ((readReg s rs2).toNat % 32))) s with
      pc := s.pc + 4#32, cycles := s.cycles + 1, instructions := s.instructions + 1 } ∧
    exec (.sra rd rs1 rs2) s = .next { writeReg rd (BitVec.ofInt 32 ((readReg s rs1).toInt / 2 ^ ((readReg s rs2).toNat % 32))) s with
      pc := s.pc + 4#32, cycles := s.cycles + 1, instructions := s.instructions + 1 } ∧
    exec (.or rd rs1 rs2) s = .next { writeReg rd ((readReg s rs1) ||| (readReg s rs2)) s with
      pc := s.pc + 4#32, cycles := s.cycles + 1, instructions := s.instructions + 1 } ∧
    exec (.and rd rs1 rs2) s = .next { writeReg rd ((readReg s rs1) &&& (readReg s rs2)) s with
      pc := s.pc + 4#32, cycles := s.cycles + 1, instructions := s.instructions + 1 }

/-- R215 to R219, for every operand and every state; MUL is stated with the unsigned product, whose low half is that of the signed one. -/
def Obligations.MultiplyResults : Prop :=
  ∀ (rd rs1 rs2 : RegIdx) (s : State),
    exec (.mul rd rs1 rs2) s = .next { writeReg rd (BitVec.ofNat 32 ((readReg s rs1).toNat * (readReg s rs2).toNat)) s with
      pc := s.pc + 4#32, cycles := s.cycles + 1, instructions := s.instructions + 1 } ∧
    exec (.mulh rd rs1 rs2) s = .next { writeReg rd (BitVec.ofInt 32 (((readReg s rs1).toInt * (readReg s rs2).toInt) / 2 ^ 32)) s with
      pc := s.pc + 4#32, cycles := s.cycles + 1, instructions := s.instructions + 1 } ∧
    exec (.mulhsu rd rs1 rs2) s = .next { writeReg rd (BitVec.ofInt 32 (((readReg s rs1).toInt * ((readReg s rs2).toNat : Int)) / 2 ^ 32)) s with
      pc := s.pc + 4#32, cycles := s.cycles + 1, instructions := s.instructions + 1 } ∧
    exec (.mulhu rd rs1 rs2) s = .next { writeReg rd (BitVec.ofNat 32 (((readReg s rs1).toNat * (readReg s rs2).toNat) / 2 ^ 32)) s with
      pc := s.pc + 4#32, cycles := s.cycles + 1, instructions := s.instructions + 1 }

/-- R220 to R223, for every operand and every state (the rounding is the spec's decision D20). -/
def Obligations.DivideResults : Prop :=
  ∀ (rd rs1 rs2 : RegIdx) (s : State),
    exec (.div rd rs1 rs2) s = .next { writeReg rd (if (readReg s rs2) = 0#32 then 0xFFFFFFFF#32
      else if (readReg s rs1) = 0x80000000#32 ∧ (readReg s rs2) = 0xFFFFFFFF#32 then 0x80000000#32
      else BitVec.ofInt 32 (Int.tdiv (readReg s rs1).toInt (readReg s rs2).toInt)) s with
      pc := s.pc + 4#32, cycles := s.cycles + 1, instructions := s.instructions + 1 } ∧
    exec (.divu rd rs1 rs2) s = .next { writeReg rd (if (readReg s rs2) = 0#32 then 0xFFFFFFFF#32 else BitVec.ofNat 32 ((readReg s rs1).toNat / (readReg s rs2).toNat)) s with
      pc := s.pc + 4#32, cycles := s.cycles + 1, instructions := s.instructions + 1 } ∧
    exec (.rem rd rs1 rs2) s = .next { writeReg rd (if (readReg s rs2) = 0#32 then (readReg s rs1)
      else if (readReg s rs1) = 0x80000000#32 ∧ (readReg s rs2) = 0xFFFFFFFF#32 then 0#32
      else BitVec.ofInt 32 (Int.tmod (readReg s rs1).toInt (readReg s rs2).toInt)) s with
      pc := s.pc + 4#32, cycles := s.cycles + 1, instructions := s.instructions + 1 } ∧
    exec (.remu rd rs1 rs2) s = .next { writeReg rd (if (readReg s rs2) = 0#32 then (readReg s rs1) else BitVec.ofNat 32 ((readReg s rs1).toNat % (readReg s rs2).toNat)) s with
      pc := s.pc + 4#32, cycles := s.cycles + 1, instructions := s.instructions + 1 }

/-- R121 and R230 (the accounting is the spec's decision D17). -/
def Obligations.EcallHaltsTheSingleCycleEngine : Prop :=
  ∀ s : State, exec .ecall s = .next { s with halted := true, cycles := s.cycles + 1, instructions := s.instructions + 1 }

/-- R231 (decision D16), R233, R234 (decision D15). -/
def Obligations.BubbleWordsOnlyAdvance : Prop :=
  ∀ (bits : BitVec 25) (w : Word) (s : State),
    exec .ebreak s = .next { s with pc := s.pc + 4#32, cycles := s.cycles + 1, instructions := s.instructions + 1 } ∧
    exec (.fence bits) s = .next { s with pc := s.pc + 4#32, cycles := s.cycles + 1, instructions := s.instructions + 1 } ∧
    exec (.unknown w) s = .next { s with pc := s.pc + 4#32, cycles := s.cycles + 1, instructions := s.instructions + 1 }

/-- The register frame of all 49 constructors; the destination is `destOf`, none for branches, stores, ECALL, EBREAK, FENCE and UNKNOWN words. -/
def Obligations.RegisterFrame : Prop :=
  ∀ (i : Instr) (s t : State), exec i s = .next t →
    (∀ j, destOf i ≠ some j → readReg t j = readReg s j) ∧
    readReg t 0#5 = 0#32 ∧
    (destOf i = some 0#5 → t.regs = s.regs)

/-- The memory frame of all 49 constructors; the address stored to is computed by `effectiveAddress`, as the meanings compute it. -/
def Obligations.MemoryFrame : Prop :=
  ∀ (i : Instr) (s t : State), exec i s = .next t →
    (storeOf i s = none → ∀ b, t.mem.readByte b = s.mem.readByte b) ∧
    (∀ a n, storeOf i s = some (a, n) → ∀ b, ¬ inBytes a n b → t.mem.readByte b = s.mem.readByte b)

/-- The frame of the rest of the state for all 49 constructors. -/
def Obligations.MachineStateFrame : Prop :=
  ∀ (i : Instr) (s t : State), exec i s = .next t →
    t.nextPc = s.nextPc ∧ t.ifId = s.ifId ∧ t.idEx = s.idEx ∧ t.exMem = s.exMem ∧ t.memWb = s.memWb ∧
    t.stalled = s.stalled ∧ t.hazardDetection = s.hazardDetection ∧ t.forwarding = s.forwarding ∧
    t.stalls = s.stalls ∧ t.flushes = s.flushes ∧ t.forwards = s.forwards ∧
    t.breakpoints = s.breakpoints ∧ t.engine = s.engine ∧
    (i ≠ .ecall → t.halted = s.halted) ∧
    (i.kind.isLoad = false → t.memReads = s.memReads) ∧
    (i.kind.isStore = false → t.memWrites = s.memWrites) ∧
    t.cycles = s.cycles + 1 ∧ t.instructions = s.instructions + 1

/-- R41; the half-word reads are the narrower accesses it derives from R43 and R44. -/
def Obligations.WordWritesAreLittleEndian : Prop :=
  ∀ (m : Memory) (a : Address) (w : Word),
    (∀ i : Nat, i < 4 → ((m.writeWord a w).readByte (a + BitVec.ofNat 32 i)).toNat = (w.toNat >>> (8 * i)) &&& 0xFF) ∧
    (m.writeWord a w).readHalf a = w.extractLsb' 0 16 ∧
    (m.writeWord a w).readHalf (a + 2#32) = w.extractLsb' 16 16 ∧
    (m.writeWord a w).readWord a = w

/-- The formula of R43 for n = 2 and 4 (n = 1 is the byte itself), and the signed reads of 8 and 16 bits. -/
def Obligations.MemReadIsTheByteSum : Prop :=
  ∀ (m : Memory) (a : Address),
    (m.readHalf a).toNat = (m.readByte a).toNat + ((m.readByte (a + 1#32)).toNat <<< 8) ∧
    (m.readWord a).toNat = (m.readByte a).toNat + ((m.readByte (a + 1#32)).toNat <<< 8) +
      ((m.readByte (a + 2#32)).toNat <<< 16) + ((m.readByte (a + 3#32)).toNat <<< 24) ∧
    (loadValue .lb m a).toInt = (m.readByte a).toInt ∧
    (loadValue .lh m a).toInt = (m.readHalf a).toInt

/-- R44 for the three widths. -/
def Obligations.MemWriteTouchesItsBytesOnly : Prop :=
  ∀ (m : Memory) (a : Address) (v : Word),
    ((m.writeByte a (v.extractLsb' 0 8)).readByte a = v.extractLsb' 0 8) ∧
    (∀ b, ¬ inBytes a 1 b → (m.writeByte a (v.extractLsb' 0 8)).readByte b = m.readByte b) ∧
    (∀ k, k < 2 → (m.writeHalf a (v.extractLsb' 0 16)).readByte (a + BitVec.ofNat 32 k) = v.extractLsb' (8 * k) 8) ∧
    (∀ b, ¬ inBytes a 2 b → (m.writeHalf a (v.extractLsb' 0 16)).readByte b = m.readByte b) ∧
    (∀ k, k < 4 → (m.writeWord a v).readByte (a + BitVec.ofNat 32 k) = v.extractLsb' (8 * k) 8) ∧
    (∀ b, ¬ inBytes a 4 b → (m.writeWord a v).readByte b = m.readByte b)

/-- R111. -/
def Obligations.ShiftsUseLowFiveBits : Prop :=
  (∀ (op : AluOp) (a b : Word), op = .sll ∨ op = .srl ∨ op = .sra →
    alu op a b = alu op a (b &&& 0x1F#32) ∧ alu op a 32#32 = alu op a 0#32 ∧ alu op a 0#32 = a) ∧
  alu .sra 0x80000000#32 31#32 = 0xFFFFFFFF#32 ∧ alu .srl 0x80000000#32 31#32 = 0x00000001#32

/-- The identity of R112, with its unsigned counterpart. -/
def Obligations.DivisionIdentity : Prop :=
  ∀ a b : Word, b ≠ 0#32 →
    (¬ (a = 0x80000000#32 ∧ b = 0xFFFFFFFF#32) → a = b * alu .div a b + alu .rem a b) ∧
    a = b * alu .divu a b + alu .remu a b ∧ (alu .remu a b).toNat < b.toNat

/-- R114 on division (an inference of the spec from R110 and R112), with the corner values of R112. -/
def Obligations.DivisionSigns : Prop :=
  (∀ a b : Word, b ≠ 0#32 → ¬ (a = 0x80000000#32 ∧ b = 0xFFFFFFFF#32) →
    (alu .div a b).toInt = (if (a.toInt < 0) ↔ (b.toInt < 0) then ((a.toInt.natAbs / b.toInt.natAbs : Nat) : Int)
      else -((a.toInt.natAbs / b.toInt.natAbs : Nat) : Int)) ∧
    (alu .rem a b).toInt = (if a.toInt < 0 then -((a.toInt.natAbs % b.toInt.natAbs : Nat) : Int)
      else ((a.toInt.natAbs % b.toInt.natAbs : Nat) : Int))) ∧
  (∀ a : Word, alu .div a 0#32 = 0xFFFFFFFF#32 ∧ alu .rem a 0#32 = a ∧ alu .divu a 0#32 = 0xFFFFFFFF#32 ∧ alu .remu a 0#32 = a) ∧
  alu .div 0x80000000#32 0xFFFFFFFF#32 = 0x80000000#32 ∧ alu .rem 0x80000000#32 0xFFFFFFFF#32 = 0#32

/-- R110, the four multiply rows, as one identity per signedness. -/
def Obligations.ProductHalvesRecombine : Prop :=
  ∀ a b : Word,
    (alu .mulh a b).toInt * 2 ^ 32 + ((alu .mul a b).toNat : Int) = a.toInt * b.toInt ∧
    (alu .mulhsu a b).toInt * 2 ^ 32 + ((alu .mul a b).toNat : Int) = a.toInt * (b.toNat : Int) ∧
    (alu .mulhu a b).toNat * 2 ^ 32 + (alu .mul a b).toNat = a.toNat * b.toNat

/-- R120: fetch at any alignment (R46), decode, execute. In the pipeline the same instruction passes five ticks: see EmptyPipelineRunsOneInstruction and TickCommitsReferenceStep. -/
def Obligations.StepRunsDecodedInstruction : Prop :=
  ∀ (s : State) (i : Instr), s.engine = .singleCycle → s.halted = false →
    decodeBytes [s.mem.readByte s.pc, s.mem.readByte (s.pc + 1#32), s.mem.readByte (s.pc + 2#32), s.mem.readByte (s.pc + 3#32)]
      = .ok (i, []) →
    step s = exec i { s with memReads := s.memReads + fetchCount }

/-- The model's own placing of a word (assumption log 3) puts it where step fetches. -/
def Obligations.PlacedWordRunsNext : Prop :=
  ∀ (s : State) (w : Nat),
    step (s.withFetchWord 32 w) = exec (decodeWord (BitVec.ofNat 32 w)) (countFetch (s.withFetchWord 32 w))

/-- R241: "its step function is total"; no instruction and no access raises anything (R240). -/
def Obligations.StepAlwaysAnswers : Prop :=
  ∀ s : State, ∃ t, step s = .next t

/-- Two designs of the same machine agree: the instruction rules of files 41 to 49 and the table of control bits with R115 to R120. -/
def Obligations.ExecIsTheCommonDatapath : Prop :=
  ∀ (w : Word) (s : State), exec (decodeWord w) s = .next (datapathStep (decodeRecord w s.pc) s)

/-- R247: "Once `halted` is true, every `tick` ... returns HALTED and changes nothing, not even `cycles`". -/
def Obligations.HaltedMachineStays : Prop :=
  ∀ s : State, s.halted = true →
    step s = .next s ∧ stepStatus s = .halted ∧ ∀ p, (resetInput p s).halted = false

/-- R244 item 4 and R256 (the status names are the spec's decision D18). -/
def Obligations.StatusPriority : Prop :=
  ∀ s t : State, s.engine = .pipeline → s.halted = false → step s = .next t →
    stepStatus s = if t.pc ∈ s.breakpoints then .paused else if t.halted then .halted else .running

/-- R120 and "CPI = 1.0 exactly" (R316). -/
def Obligations.SingleCycleCountsEveryStep : Prop :=
  ∀ s t : State, s.engine = .singleCycle → s.halted = false → step s = .next t →
    t.cycles = s.cycles + 1 ∧ t.instructions = s.instructions + 1

/-- R292. -/
def Obligations.TickCountsOneCycle : Prop :=
  ∀ s t : State, s.engine = .pipeline → s.halted = false → step s = .next t → t.cycles = s.cycles + 1

/-- R280; the second clause is the inference it draws from R24 for a flushed IF/ID, whose fields are the spec's decision D7. -/
def Obligations.LoadUsePredicate : Prop :=
  (∀ (d : IdEx) (next : Decoded),
    detectLoadUse d next = true ↔
      d.valid = true ∧ d.ins.memRead = true ∧ d.ins.rd ≠ 0#5 ∧ (next.rs1 = d.ins.rd ∨ next.rs2 = d.ins.rd)) ∧
  (∀ d : IdEx, detectLoadUse d (decodeRecord flushedIfId.raw flushedIfId.pc) = false)

/-- R281. -/
def Obligations.ForwardSourcePriority : Prop :=
  ∀ (rs : RegIdx) (e : ExMem) (m : MemWb),
    let inEx := e.valid = true ∧ e.ins.regWrite = true ∧ e.ins.rd = rs
    let inWb := m.valid = true ∧ m.ins.regWrite = true ∧ m.ins.rd = rs
    (forwardSource rs e m = .exMem ↔ rs ≠ 0#5 ∧ inEx) ∧
    (forwardSource rs e m = .memWb ↔ rs ≠ 0#5 ∧ ¬ inEx ∧ inWb) ∧
    (forwardSource rs e m = .none ↔ rs = 0#5 ∨ (¬ inEx ∧ ¬ inWb)) ∧
    (forwardSource rs e m = .exMem → e.ins.rd ≠ 0#5) ∧ (forwardSource rs e m = .memWb → m.ins.rd ≠ 0#5)

/-- R293; no other stage writes a register. -/
def Obligations.WritebackTick : Prop :=
  ∀ s t : State, s.engine = .pipeline → s.halted = false → step s = .next t →
    (∀ j, readReg t j =
      if s.memWb.valid = true ∧ s.memWb.ins.regWrite = true ∧ s.memWb.ins.rd ≠ 0#5 ∧ j = s.memWb.ins.rd
      then (if s.memWb.ins.memToReg = true then s.memWb.memData else s.memWb.aluResult)
      else readReg s j) ∧
    (t.halted = true ↔ s.memWb.valid = true ∧ s.memWb.ins.kind = .ecall)

/-- R294 (mem_data = 0 for a non-load is the spec's decision D21), and the memory counters of R55 in a tick: the access of MEM (R294) and the fetch of IF (R298), which a stalled tick leaves out (R299). R55 leaves the increments open; that they are `accessCount` and `fetchCount` of the constant `Config.memCountGranularity` is the model's choice (assumption log 4). -/
def Obligations.MemoryTick : Prop :=
  ∀ s t : State, s.engine = .pipeline → s.halted = false → Inv s → step s = .next t →
    (s.exMem.valid = false → t.memWb = flushedMemWb ∧ t.mem = s.mem ∧ t.instructions = s.instructions) ∧
    (s.exMem.valid = true →
      t.memWb = { ins := s.exMem.ins, aluResult := s.exMem.aluResult, valid := true
                  memData := if s.exMem.ins.memRead = true then loadValue s.exMem.ins.kind s.mem s.exMem.aluResult else 0#32 } ∧
      t.mem = (if s.exMem.ins.memWrite = true
        then storeValue s.exMem.ins.kind s.mem s.exMem.aluResult s.exMem.rs2Val else s.mem) ∧
      t.instructions = s.instructions +
        (if s.exMem.ins.kind ≠ .unknown ∧ s.exMem.ins.raw ≠ 0x00000013#32 ∧ s.exMem.ins.raw ≠ 0#32 then 1 else 0)) ∧
    t.memReads = s.memReads +
      (if s.exMem.valid = true ∧ s.exMem.ins.memRead = true then accessCount (accessWidth s.exMem.ins.kind) else 0) +
      (if t.stalled = true then 0 else fetchCount) ∧
    t.memWrites = s.memWrites +
      (if s.exMem.valid = true ∧ s.exMem.ins.memWrite = true then accessCount (accessWidth s.exMem.ins.kind) else 0)

/-- R295 and R296 (start-of-tick MEM/WB: the spec's decision D2; counting every forward: D22). -/
def Obligations.ExecuteTick : Prop :=
  ∀ s t : State, s.engine = .pipeline → s.halted = false → step s = .next t →
    (s.idEx.valid = false → t.exMem = flushedExMem ∧ t.forwards = s.forwards ∧ t.flushes = s.flushes) ∧
    (s.idEx.valid = true → ∀ A B : Word × Nat,
      A = (if s.forwarding = true then
        match forwardSource s.idEx.ins.rs1 s.exMem s.memWb with
        | .exMem => (s.exMem.aluResult, 1)
        | .memWb => ((if s.memWb.ins.memToReg = true then s.memWb.memData else s.memWb.aluResult), 1)
        | .none => (s.idEx.rs1Val, 0)
      else (s.idEx.rs1Val, 0)) →
      B = (if s.forwarding = true then
        match forwardSource s.idEx.ins.rs2 s.exMem s.memWb with
        | .exMem => (s.exMem.aluResult, 1)
        | .memWb => ((if s.memWb.ins.memToReg = true then s.memWb.memData else s.memWb.aluResult), 1)
        | .none => (s.idEx.rs2Val, 0)
      else (s.idEx.rs2Val, 0)) →
      t.exMem.ins = s.idEx.ins ∧ t.exMem.valid = true ∧ t.exMem.rs2Val = B.1 ∧
      t.exMem.aluResult = (if s.idEx.ins.kind = .jal ∨ s.idEx.ins.kind = .jalr then s.idEx.pc + 4#32
        else alu s.idEx.ins.aluOp (if s.idEx.ins.kind = .auipc then s.idEx.pc else A.1)
          (if s.idEx.ins.aluSrc = true then s.idEx.ins.imm else B.1)) ∧
      (t.exMem.branchTaken = true ↔ s.idEx.ins.kind = .jal ∨ s.idEx.ins.kind = .jalr ∨
        (s.idEx.ins.branch = true ∧ branchTaken s.idEx.ins.kind A.1 B.1 = true)) ∧
      (t.exMem.branchTaken = true → t.exMem.branchTarget =
        if s.idEx.ins.kind = .jalr then (A.1 + s.idEx.ins.imm) &&& 0xFFFFFFFE#32 else s.idEx.pc + s.idEx.ins.imm) ∧
      t.forwards = s.forwards + A.2 + B.2)

/-- R296, R298 and R302; that a stall cannot coincide is R244 item 3. -/
def Obligations.RedirectTick : Prop :=
  ∀ s t : State, Inv s → s.engine = .pipeline → s.halted = false → step s = .next t → t.exMem.branchTaken = true →
    t.ifId = { raw := t.mem.readWord t.exMem.branchTarget, pc := t.exMem.branchTarget
               pc4 := t.exMem.branchTarget + 4#32, valid := true } ∧
    t.idEx = flushedIdEx ∧ t.pc = t.exMem.branchTarget + 4#32 ∧ t.nextPc = t.exMem.branchTarget + 8#32 ∧
    t.flushes = s.flushes + 2 ∧ t.stalled = false ∧ t.stalls = s.stalls

/-- R297, R298, write-before-read (R300) and store-before-fetch (R52). -/
def Obligations.FlowingTick : Prop :=
  ∀ s t : State, Inv s → s.engine = .pipeline → s.halted = false → step s = .next t →
    t.stalled = false → t.exMem.branchTaken = false →
    t.ifId = { raw := t.mem.readWord s.pc, pc := s.pc, pc4 := s.pc + 4#32, valid := true } ∧
    t.pc = s.pc + 4#32 ∧ t.nextPc = s.pc + 8#32 ∧ t.stalls = s.stalls ∧ t.flushes = s.flushes ∧
    (s.ifId.valid = false → t.idEx = flushedIdEx) ∧
    (s.ifId.valid = true →
      t.idEx = { ins := decodeRecord s.ifId.raw s.ifId.pc, pc := s.ifId.pc, pc4 := s.ifId.pc4, valid := true
                 rs1Val := readReg t (decodeRecord s.ifId.raw s.ifId.pc).rs1
                 rs2Val := readReg t (decodeRecord s.ifId.raw s.ifId.pc).rs2 })

/-- R299 and R303. -/
def Obligations.StalledTick : Prop :=
  ∀ s t : State, Inv s → s.engine = .pipeline → s.halted = false → s.hazardDetection = true →
    detectLoadUse s.idEx (decodeRecord s.ifId.raw s.ifId.pc) = true → step s = .next t →
    t.stalled = true ∧ t.stalls = s.stalls + 1 ∧ t.idEx = flushedIdEx ∧ t.ifId = s.ifId ∧
    t.pc = s.pc ∧ t.nextPc = s.nextPc ∧ t.flushes = s.flushes ∧
    t.exMem.valid = true ∧ t.exMem.ins = s.idEx.ins ∧ t.exMem.branchTaken = false ∧
    stallNow t = false

/-- R311 and R312. -/
def Obligations.SwitchedOffFeaturesDoNothing : Prop :=
  ∀ s t : State, s.engine = .pipeline → s.halted = false → step s = .next t →
    (s.hazardDetection = false → t.stalled = false ∧ t.stalls = s.stalls) ∧
    (s.forwarding = false → t.forwards = s.forwards ∧
      (s.idEx.valid = true → t.exMem = executed s.idEx s.idEx.rs1Val s.idEx.rs2Val))

/-- R17: "No instruction reads or writes any of them", of the inputs; R256 of the breakpoints; D25 of the engine. -/
def Obligations.ConfigurationIsNeverWritten : Prop :=
  ∀ s t : State, step s = .next t →
    t.hazardDetection = s.hazardDetection ∧ t.forwarding = s.forwarding ∧ t.breakpoints = s.breakpoints ∧ t.engine = s.engine

/-- R18: "No rule of the machine reads a counter: they are outputs", and R55 of the memory counters. -/
def Obligations.CountersAreNeverRead : Prop :=
  ∀ s : State, ∃ t u, step s = .next t ∧ step (withoutCounters s) = .next u ∧ withoutCounters t = withoutCounters u

/-- R256: "PAUSED changes no state". -/
def Obligations.BreakpointsDoNotTouchState : Prop :=
  ∀ (s t : State) (b : List Address), step s = .next t → step (setBreakpoints b s) = .next (setBreakpoints b t)

/-- R122. -/
def Obligations.SingleCycleIgnoresTheToggles : Prop :=
  ∀ (s t : State) (hd fw : Bool), s.engine = .singleCycle → step s = .next t →
    step (setHazardDetection hd (setForwarding fw s)) = .next (setHazardDetection hd (setForwarding fw t))

/-- R30. The register file, memory and x2 are the source's; the rest are the spec's decisions (D3, D5, D6, D7, D13, D18), the empty image and the selected engine the model's (assumption log 1, 5). -/
def Obligations.ResetLeavesLaunchState : Prop :=
  (∀ i : RegIdx, readReg State.reset i = if i = 2#5 then 0x7FFFFFF0#32 else 0#32) ∧
  State.reset.pc = 0#32 ∧ State.reset.nextPc = 4#32 ∧
  (∀ a : Address, State.reset.mem.readByte a = 0#8) ∧
  State.reset.ifId = flushedIfId ∧ State.reset.idEx = flushedIdEx ∧
  State.reset.exMem = flushedExMem ∧ State.reset.memWb = flushedMemWb ∧
  State.reset.halted = false ∧ State.reset.stalled = false ∧
  State.reset.cycles = 0 ∧ State.reset.instructions = 0 ∧ State.reset.stalls = 0 ∧ State.reset.flushes = 0 ∧
  State.reset.forwards = 0 ∧ State.reset.memReads = 0 ∧ State.reset.memWrites = 0 ∧
  State.reset.hazardDetection = true ∧ State.reset.forwarding = true ∧ State.reset.breakpoints = [] ∧
  State.reset.engine = .pipeline

/-- R30, R57, R270 ("hazard_detection, forwarding, BREAKPOINTS: unchanged") and R272, for every value of the parameters. The values are the spec's decisions D3 to D7, D13, D14 and D18; that the selected engine survives reset is the model's choice (assumption log 1). -/
def Obligations.ResetPlacesTheImage : Prop :=
  (∀ (p : LaunchParams) (s : State),
    let t := resetInput p s
    t.hazardDetection = s.hazardDetection ∧ t.forwarding = s.forwarding ∧ t.breakpoints = s.breakpoints ∧ t.engine = s.engine ∧
    (∀ i : RegIdx, readReg t i = if i = 2#5 then p.spInit else 0#32) ∧
    t.pc = p.resetPc ∧ t.nextPc = p.resetPc + 4#32 ∧
    t.ifId = flushedIfId ∧ t.idEx = flushedIdEx ∧ t.exMem = flushedExMem ∧ t.memWb = flushedMemWb ∧
    t.halted = false ∧ t.stalled = false ∧
    t.cycles = 0 ∧ t.instructions = 0 ∧ t.stalls = 0 ∧ t.flushes = 0 ∧ t.forwards = 0 ∧
    t.memReads = 0 ∧ t.memWrites = 0) ∧
  (∀ (p : LaunchParams) (s t : State), s.hazardDetection = t.hazardDetection → s.forwarding = t.forwarding →
    s.breakpoints = t.breakpoints → s.engine = t.engine → resetInput p s = resetInput p t) ∧
  (∀ (p : LaunchParams) (s : State), 4 * p.textImage.length ≤ 0x10000000 → p.dataImage.length ≤ 0xF0000000 →
    (∀ (k : Nat) (h : k < p.textImage.length),
      (resetInput p s).mem.readWord (BitVec.ofNat 32 (4 * k)) = p.textImage[k]) ∧
    (∀ (k : Nat) (h : k < p.dataImage.length),
      (resetInput p s).mem.readByte (BitVec.ofNat 32 (0x10000000 + k)) = p.dataImage[k]) ∧
    (∀ a : Address, 4 * p.textImage.length ≤ a.toNat →
      (a.toNat < 0x10000000 ∨ 0x10000000 + p.dataImage.length ≤ a.toNat) → (resetInput p s).mem.readByte a = 0#8))

/-- The launch state of either engine satisfies Inv, Flow and LoadUseSafe. -/
def Obligations.InvariantHoldsAtReset : Prop :=
  Inv State.reset ∧ Flow State.reset ∧ LoadUseSafe State.reset ∧
  ∀ (p : LaunchParams) (s : State), Inv (resetInput p s) ∧ Flow (resetInput p s) ∧ LoadUseSafe (resetInput p s)

/-- The invariant of the machine; the last clause is "`instructions ≤ cycles`" (R316). -/
def Obligations.StepKeepsTheInvariant : Prop :=
  ∀ s t : State, Inv s → step s = .next t → Inv t ∧ t.instructions ≤ t.cycles

/-- The flow of the pipeline: R297, R298, R300; the load-use condition: R280, R303. -/
def Obligations.TickKeepsTheFlow : Prop :=
  ∀ s t : State, s.engine = .pipeline → s.halted = false → Inv s → Flow s → step s = .next t →
    Flow t ∧ (s.hazardDetection = true → LoadUseSafe t)

/-- R320 ("fetched in tick t, written in tick t + 4") and R310 for one instruction. -/
def Obligations.EmptyPipelineRunsOneInstruction : Prop :=
  ∀ (s t : State), s.engine = .pipeline → s.halted = false → Flow s →
    s.ifId = flushedIfId → s.idEx = flushedIdEx → s.exMem = flushedExMem → s.memWb = flushedMemWb →
    exec (decodeWord (s.mem.readWord s.pc)) s = .next t →
    (ticks 4 s).mem = t.mem ∧ (ticks 4 s).regs = s.regs ∧ (ticks 4 s).halted = false ∧
    (ticks 5 s).regs = t.regs ∧ (ticks 5 s).halted = t.halted

/-- The per-tick form of R310: registers and memory once MEM/WB and EX/MEM are completed, and the address of the next instruction to execute, agree with the single-cycle engine. -/
def Obligations.TickCommitsReferenceStep : Prop :=
  ∀ s r : State, Inv s → Flow s → LoadUseSafe s → NoEcallPastEx s →
    s.engine = .pipeline → s.halted = false → s.forwarding = true →
    FetchCoherent s → (s.idEx.valid = true → s.idEx.ins.kind ≠ .ecall) → InStep s r →
    if s.idEx.valid then ∃ r', step r = .next r' ∧ InStep (tick s) r' else InStep (tick s) r

/-- R310 as a run: conditions 1 to 3 are the hypotheses, the ECALL is EcallDrainsThePipeline. -/
def Obligations.PipelineRefinesReferenceRun : Prop :=
  ∀ (n : Nat) (s r : State), Inv s → Flow s → LoadUseSafe s → NoEcallPastEx s →
    s.engine = .pipeline → s.halted = false → s.hazardDetection = true → s.forwarding = true →
    CoherentFor n s → InStep s r →
    ∃ (m : Nat) (r' : State), m ≤ n ∧ Host.Core.run Sys2Proof.core m r = .next r' ∧ InStep (ticks n s) r' ∧
      (ticks n s).halted = false

/-- R314 and condition 4 of R310, in every configuration: the word at E + 4 has been through MEM and never writes a register; the reference engine executes the ECALL last (R121). The last two clauses have the flow of the pipeline and a reference engine as premises of their own. -/
def Obligations.EcallDrainsThePipeline : Prop :=
  ∀ s : State, Inv s → NoEcallPastEx s → s.engine = .pipeline → s.halted = false →
    s.idEx.valid = true → s.idEx.ins.kind = .ecall →
    ((ticks 2 s).halted = false ∧ (ticks 3 s).halted = true ∧ (ticks 3 s).cycles = s.cycles + 3 ∧
      (ticks 3 s).regs = (drained s).regs ∧
      (ticks 2 s).mem = (drained s).mem ∧
      (ticks 3 s).mem = (if (ticks 2 s).exMem.valid = true ∧ (ticks 2 s).exMem.ins.memWrite = true
        then storeValue (ticks 2 s).exMem.ins.kind (drained s).mem (ticks 2 s).exMem.aluResult (ticks 2 s).exMem.rs2Val
        else (drained s).mem)) ∧
    (Flow s → s.ifId.pc = s.idEx.pc + 4#32 ∧ (ticks 2 s).exMem.valid = true ∧
      (ticks 2 s).exMem.ins = decodeRecord s.ifId.raw (s.idEx.pc + 4#32)) ∧
    (∀ r : State, FetchCoherent s → InStep s r →
      ∃ r', step r = .next r' ∧ r'.halted = true ∧ r'.pc = s.idEx.pc ∧ r'.regs = (ticks 3 s).regs ∧
        (((ticks 2 s).exMem.valid = true → (ticks 2 s).exMem.ins.memWrite = false) → r'.mem = (ticks 3 s).mem))
end

