-- ==== Sys2Proof/Laws/Memory.lean ====
section
/-! SUPPORT. The laws of memory: what one byte reads as after one byte is written, and that every memory operation keeps the
canonical form. -/

namespace Sys2Proof.Machine

/-! One byte. -/

theorem Memory.lookup_erase (m : Memory) (a b : Nat) :
    (m.erase a).lookup b = if b = a then Config.unwrittenByte else m.lookup b := by
  induction m with
  | nil => simp [erase, lookup]
  | cons c m ih =>
    simp only [erase, List.filter_cons, bne_iff_ne, ne_eq, ite_not] at ih ⊢
    by_cases hc : c.1 = a
    · rw [if_pos hc, ih]
      by_cases hb : b = a
      · simp [hb]
      · have : ¬ c.1 = b := fun h => hb (h ▸ hc)
        simp [lookup, hb, this]
    · rw [if_neg hc]
      by_cases hb : c.1 = b
      · have : ¬ b = a := fun h => hc (hb.trans h)
        simp [lookup, hb, this]
      · simp [lookup, hb, ih]

theorem Memory.lookup_insert (m : Memory) (a : Nat) (v : Byte) (b : Nat) (h : ∀ c ∈ m, c.1 ≠ a) :
    (m.insert a v).lookup b = if b = a then v else m.lookup b := by
  induction m with
  | nil => simp [insert, lookup, @eq_comm _ a b]
  | cons c m ih =>
    have hca : c.1 ≠ a := h c (by simp)
    have ih' := ih (fun d hd => h d (by simp [hd]))
    unfold insert
    split
    · simp [lookup, @eq_comm _ a b]
    · by_cases hb : c.1 = b
      · have : ¬ b = a := fun e => hca (hb.trans e)
        simp [lookup, hb, this]
      · simp [lookup, hb, ih']

theorem Memory.erase_ne (m : Memory) (a : Nat) : ∀ c ∈ m.erase a, c.1 ≠ a := by
  simp [erase]

/-- Reading a byte after writing one (R42): the written byte at its address, every other address as before. -/
theorem Memory.readByte_writeByte (m : Memory) (a : Address) (v : Byte) (b : Address) :
    (m.writeByte a v).readByte b = if b = a then v else m.readByte b := by
  have hab : (b.toNat = a.toNat) = (b = a) := propext ⟨fun h => BitVec.eq_of_toNat_eq h, fun h => by rw [h]⟩
  unfold writeByte readByte
  split
  · rename_i hv
    simp only [lookup_erase, hab, hv]
  · rw [lookup_insert _ _ _ _ (m.erase_ne _), lookup_erase]
    simp only [hab]
    split <;> rfl

@[simp] theorem Memory.readByte_nil (a : Address) : Memory.readByte [] a = Config.unwrittenByte := rfl

/-! The canonical form. -/

theorem Memory.wf_erase {m : Memory} (h : m.wf) (a : Nat) : (m.erase a).wf :=
  ⟨h.1.filter _, fun c hc => h.2 c (List.mem_of_mem_filter hc)⟩

theorem Memory.mem_insert (m : Memory) (a : Nat) (v : Byte) (c : Host.Cell) :
    c ∈ m.insert a v ↔ c = (a, v) ∨ c ∈ m := by
  induction m with
  | nil => simp [insert]
  | cons d m ih =>
    unfold insert
    split
    · simp
    · simp [ih, or_left_comm]

theorem Memory.wf_insert {m : Memory} (h : m.wf) (a : Nat) (v : Byte) (ha : a < 2 ^ 32) (hv : v ≠ Config.unwrittenByte)
    (hne : ∀ c ∈ m, c.1 ≠ a) : (m.insert a v).wf := by
  refine ⟨?_, fun c hc => ?_⟩
  · obtain ⟨hp, -⟩ := h
    induction m with
    | nil => simp [insert]
    | cons d m ih =>
      have hd : d.1 ≠ a := hne d (by simp)
      rw [List.pairwise_cons] at hp
      unfold insert
      split
      · rename_i hlt
        rw [List.pairwise_cons, List.pairwise_cons]
        refine ⟨fun c hc => ?_, hp⟩
        rcases List.mem_cons.1 hc with rfl | hc
        · exact hlt
        · exact Nat.lt_trans hlt (hp.1 c hc)
      · rename_i hnlt
        rw [List.pairwise_cons]
        refine ⟨fun c hc => ?_, ih (fun c hc => hne c (by simp [hc])) hp.2⟩
        rcases (mem_insert m a v c).1 hc with rfl | hc
        · simp only; omega
        · exact hp.1 c hc
  · rcases (mem_insert m a v c).1 hc with rfl | hc
    · exact ⟨ha, hv⟩
    · exact h.2 c hc

theorem Memory.wf_writeByte {m : Memory} (h : m.wf) (a : Address) (v : Byte) : (m.writeByte a v).wf := by
  unfold writeByte
  split
  · exact wf_erase h _
  · rename_i hv
    exact wf_insert (wf_erase h _) _ _ a.isLt hv (m.erase_ne _)

theorem Memory.wf_writeHalf {m : Memory} (h : m.wf) (a : Address) (v : HalfWord) : (m.writeHalf a v).wf :=
  wf_writeByte (wf_writeByte h _ _) _ _

theorem Memory.wf_writeWord {m : Memory} (h : m.wf) (a : Address) (v : Word) : (m.writeWord a v).wf :=
  wf_writeByte (wf_writeByte (wf_writeByte (wf_writeByte h _ _) _ _) _ _) _ _

theorem Memory.wf_storeValue (k : Kind) {m : Memory} (h : m.wf) (a : Address) (v : Word) : (storeValue k m a v).wf := by
  unfold storeValue
  split
  · exact wf_writeByte h _ _
  · exact wf_writeHalf h _ _
  · exact wf_writeWord h _ _
  · exact h

theorem Memory.wf_placeWords {m : Memory} (h : m.wf) (a : Address) (ws : List Word) : (placeWords m a ws).wf := by
  induction ws generalizing m a with
  | nil => exact h
  | cons w ws ih => exact ih (wf_writeWord h _ _) _

theorem Memory.wf_placeBytes {m : Memory} (h : m.wf) (a : Address) (bs : List Byte) : (placeBytes m a bs).wf := by
  induction bs generalizing m a with
  | nil => exact h
  | cons b bs ih => exact ih (wf_writeByte h _ _) _

/-- The memory a reset leaves, with any image, is canonical. -/
theorem Memory.wf_launchMemory (p : LaunchParams) : (launchMemory p).wf :=
  wf_placeBytes (wf_placeWords ⟨List.Pairwise.nil, by simp⟩ _ _) _ _

/-- Storing an instruction for the next step keeps the canonical form. -/
theorem State.wf_withFetchWord {s : State} (h : s.mem.wf) (nbits w : Nat) : (s.withFetchWord nbits w).mem.wf :=
  Memory.wf_writeWord h _ _

/-- The reset memory is canonical. -/
theorem State.reset_mem_wf : State.reset.mem.wf := ⟨List.Pairwise.nil, by simp [State.reset]⟩

end Sys2Proof.Machine
end

