-- ==== Sys2Proof/Laws/State.lean ====
section
/-! SUPPORT. One lemma per field per update of the state: what each operation of Machine/Ops.lean and Machine/Datapath.lean
leaves of every field. -/

namespace Sys2Proof.Machine

/-! `countRead`. -/

@[simp] theorem countRead_regs (n : Nat) (s : State) : (countRead n s).regs = s.regs := rfl
@[simp] theorem countRead_pc (n : Nat) (s : State) : (countRead n s).pc = s.pc := rfl
@[simp] theorem countRead_nextPc (n : Nat) (s : State) : (countRead n s).nextPc = s.nextPc := rfl
@[simp] theorem countRead_mem (n : Nat) (s : State) : (countRead n s).mem = s.mem := rfl
@[simp] theorem countRead_ifId (n : Nat) (s : State) : (countRead n s).ifId = s.ifId := rfl
@[simp] theorem countRead_idEx (n : Nat) (s : State) : (countRead n s).idEx = s.idEx := rfl
@[simp] theorem countRead_exMem (n : Nat) (s : State) : (countRead n s).exMem = s.exMem := rfl
@[simp] theorem countRead_memWb (n : Nat) (s : State) : (countRead n s).memWb = s.memWb := rfl
@[simp] theorem countRead_halted (n : Nat) (s : State) : (countRead n s).halted = s.halted := rfl
@[simp] theorem countRead_stalled (n : Nat) (s : State) : (countRead n s).stalled = s.stalled := rfl
@[simp] theorem countRead_hazardDetection (n : Nat) (s : State) : (countRead n s).hazardDetection = s.hazardDetection := rfl
@[simp] theorem countRead_forwarding (n : Nat) (s : State) : (countRead n s).forwarding = s.forwarding := rfl
@[simp] theorem countRead_cycles (n : Nat) (s : State) : (countRead n s).cycles = s.cycles := rfl
@[simp] theorem countRead_instructions (n : Nat) (s : State) : (countRead n s).instructions = s.instructions := rfl
@[simp] theorem countRead_stalls (n : Nat) (s : State) : (countRead n s).stalls = s.stalls := rfl
@[simp] theorem countRead_flushes (n : Nat) (s : State) : (countRead n s).flushes = s.flushes := rfl
@[simp] theorem countRead_forwards (n : Nat) (s : State) : (countRead n s).forwards = s.forwards := rfl
@[simp] theorem countRead_memReads (n : Nat) (s : State) : (countRead n s).memReads = s.memReads + accessCount n := rfl
@[simp] theorem countRead_memWrites (n : Nat) (s : State) : (countRead n s).memWrites = s.memWrites := rfl
@[simp] theorem countRead_breakpoints (n : Nat) (s : State) : (countRead n s).breakpoints = s.breakpoints := rfl
@[simp] theorem countRead_engine (n : Nat) (s : State) : (countRead n s).engine = s.engine := rfl

/-! `countFetch`. -/

@[simp] theorem countFetch_regs (s : State) : (countFetch s).regs = s.regs := rfl
@[simp] theorem countFetch_pc (s : State) : (countFetch s).pc = s.pc := rfl
@[simp] theorem countFetch_nextPc (s : State) : (countFetch s).nextPc = s.nextPc := rfl
@[simp] theorem countFetch_mem (s : State) : (countFetch s).mem = s.mem := rfl
@[simp] theorem countFetch_ifId (s : State) : (countFetch s).ifId = s.ifId := rfl
@[simp] theorem countFetch_idEx (s : State) : (countFetch s).idEx = s.idEx := rfl
@[simp] theorem countFetch_exMem (s : State) : (countFetch s).exMem = s.exMem := rfl
@[simp] theorem countFetch_memWb (s : State) : (countFetch s).memWb = s.memWb := rfl
@[simp] theorem countFetch_halted (s : State) : (countFetch s).halted = s.halted := rfl
@[simp] theorem countFetch_stalled (s : State) : (countFetch s).stalled = s.stalled := rfl
@[simp] theorem countFetch_hazardDetection (s : State) : (countFetch s).hazardDetection = s.hazardDetection := rfl
@[simp] theorem countFetch_forwarding (s : State) : (countFetch s).forwarding = s.forwarding := rfl
@[simp] theorem countFetch_cycles (s : State) : (countFetch s).cycles = s.cycles := rfl
@[simp] theorem countFetch_instructions (s : State) : (countFetch s).instructions = s.instructions := rfl
@[simp] theorem countFetch_stalls (s : State) : (countFetch s).stalls = s.stalls := rfl
@[simp] theorem countFetch_flushes (s : State) : (countFetch s).flushes = s.flushes := rfl
@[simp] theorem countFetch_forwards (s : State) : (countFetch s).forwards = s.forwards := rfl
@[simp] theorem countFetch_memReads (s : State) : (countFetch s).memReads = s.memReads + fetchCount := rfl
@[simp] theorem countFetch_memWrites (s : State) : (countFetch s).memWrites = s.memWrites := rfl
@[simp] theorem countFetch_breakpoints (s : State) : (countFetch s).breakpoints = s.breakpoints := rfl
@[simp] theorem countFetch_engine (s : State) : (countFetch s).engine = s.engine := rfl

/-! `storeMem`. -/

@[simp] theorem storeMem_regs (k : Kind) (a : Address) (v : Word) (s : State) : (storeMem k a v s).regs = s.regs := rfl
@[simp] theorem storeMem_pc (k : Kind) (a : Address) (v : Word) (s : State) : (storeMem k a v s).pc = s.pc := rfl
@[simp] theorem storeMem_nextPc (k : Kind) (a : Address) (v : Word) (s : State) : (storeMem k a v s).nextPc = s.nextPc := rfl
@[simp] theorem storeMem_mem (k : Kind) (a : Address) (v : Word) (s : State) : (storeMem k a v s).mem = storeValue k s.mem a v := rfl
@[simp] theorem storeMem_ifId (k : Kind) (a : Address) (v : Word) (s : State) : (storeMem k a v s).ifId = s.ifId := rfl
@[simp] theorem storeMem_idEx (k : Kind) (a : Address) (v : Word) (s : State) : (storeMem k a v s).idEx = s.idEx := rfl
@[simp] theorem storeMem_exMem (k : Kind) (a : Address) (v : Word) (s : State) : (storeMem k a v s).exMem = s.exMem := rfl
@[simp] theorem storeMem_memWb (k : Kind) (a : Address) (v : Word) (s : State) : (storeMem k a v s).memWb = s.memWb := rfl
@[simp] theorem storeMem_halted (k : Kind) (a : Address) (v : Word) (s : State) : (storeMem k a v s).halted = s.halted := rfl
@[simp] theorem storeMem_stalled (k : Kind) (a : Address) (v : Word) (s : State) : (storeMem k a v s).stalled = s.stalled := rfl
@[simp] theorem storeMem_hazardDetection (k : Kind) (a : Address) (v : Word) (s : State) : (storeMem k a v s).hazardDetection = s.hazardDetection := rfl
@[simp] theorem storeMem_forwarding (k : Kind) (a : Address) (v : Word) (s : State) : (storeMem k a v s).forwarding = s.forwarding := rfl
@[simp] theorem storeMem_cycles (k : Kind) (a : Address) (v : Word) (s : State) : (storeMem k a v s).cycles = s.cycles := rfl
@[simp] theorem storeMem_instructions (k : Kind) (a : Address) (v : Word) (s : State) : (storeMem k a v s).instructions = s.instructions := rfl
@[simp] theorem storeMem_stalls (k : Kind) (a : Address) (v : Word) (s : State) : (storeMem k a v s).stalls = s.stalls := rfl
@[simp] theorem storeMem_flushes (k : Kind) (a : Address) (v : Word) (s : State) : (storeMem k a v s).flushes = s.flushes := rfl
@[simp] theorem storeMem_forwards (k : Kind) (a : Address) (v : Word) (s : State) : (storeMem k a v s).forwards = s.forwards := rfl
@[simp] theorem storeMem_memReads (k : Kind) (a : Address) (v : Word) (s : State) : (storeMem k a v s).memReads = s.memReads := rfl
@[simp] theorem storeMem_memWrites (k : Kind) (a : Address) (v : Word) (s : State) : (storeMem k a v s).memWrites = s.memWrites + accessCount (accessWidth k) := rfl
@[simp] theorem storeMem_breakpoints (k : Kind) (a : Address) (v : Word) (s : State) : (storeMem k a v s).breakpoints = s.breakpoints := rfl
@[simp] theorem storeMem_engine (k : Kind) (a : Address) (v : Word) (s : State) : (storeMem k a v s).engine = s.engine := rfl

/-! `retireAt`. -/

@[simp] theorem retireAt_regs (a : Address) (s : State) : (retireAt a s).regs = s.regs := rfl
@[simp] theorem retireAt_pc (a : Address) (s : State) : (retireAt a s).pc = a := rfl
@[simp] theorem retireAt_nextPc (a : Address) (s : State) : (retireAt a s).nextPc = s.nextPc := rfl
@[simp] theorem retireAt_mem (a : Address) (s : State) : (retireAt a s).mem = s.mem := rfl
@[simp] theorem retireAt_ifId (a : Address) (s : State) : (retireAt a s).ifId = s.ifId := rfl
@[simp] theorem retireAt_idEx (a : Address) (s : State) : (retireAt a s).idEx = s.idEx := rfl
@[simp] theorem retireAt_exMem (a : Address) (s : State) : (retireAt a s).exMem = s.exMem := rfl
@[simp] theorem retireAt_memWb (a : Address) (s : State) : (retireAt a s).memWb = s.memWb := rfl
@[simp] theorem retireAt_halted (a : Address) (s : State) : (retireAt a s).halted = s.halted := rfl
@[simp] theorem retireAt_stalled (a : Address) (s : State) : (retireAt a s).stalled = s.stalled := rfl
@[simp] theorem retireAt_hazardDetection (a : Address) (s : State) : (retireAt a s).hazardDetection = s.hazardDetection := rfl
@[simp] theorem retireAt_forwarding (a : Address) (s : State) : (retireAt a s).forwarding = s.forwarding := rfl
@[simp] theorem retireAt_cycles (a : Address) (s : State) : (retireAt a s).cycles = s.cycles + 1 := rfl
@[simp] theorem retireAt_instructions (a : Address) (s : State) : (retireAt a s).instructions = s.instructions + 1 := rfl
@[simp] theorem retireAt_stalls (a : Address) (s : State) : (retireAt a s).stalls = s.stalls := rfl
@[simp] theorem retireAt_flushes (a : Address) (s : State) : (retireAt a s).flushes = s.flushes := rfl
@[simp] theorem retireAt_forwards (a : Address) (s : State) : (retireAt a s).forwards = s.forwards := rfl
@[simp] theorem retireAt_memReads (a : Address) (s : State) : (retireAt a s).memReads = s.memReads := rfl
@[simp] theorem retireAt_memWrites (a : Address) (s : State) : (retireAt a s).memWrites = s.memWrites := rfl
@[simp] theorem retireAt_breakpoints (a : Address) (s : State) : (retireAt a s).breakpoints = s.breakpoints := rfl
@[simp] theorem retireAt_engine (a : Address) (s : State) : (retireAt a s).engine = s.engine := rfl

/-! `halt`. -/

@[simp] theorem halt_regs (s : State) : (halt s).regs = s.regs := rfl
@[simp] theorem halt_pc (s : State) : (halt s).pc = s.pc := rfl
@[simp] theorem halt_nextPc (s : State) : (halt s).nextPc = s.nextPc := rfl
@[simp] theorem halt_mem (s : State) : (halt s).mem = s.mem := rfl
@[simp] theorem halt_ifId (s : State) : (halt s).ifId = s.ifId := rfl
@[simp] theorem halt_idEx (s : State) : (halt s).idEx = s.idEx := rfl
@[simp] theorem halt_exMem (s : State) : (halt s).exMem = s.exMem := rfl
@[simp] theorem halt_memWb (s : State) : (halt s).memWb = s.memWb := rfl
@[simp] theorem halt_halted (s : State) : (halt s).halted = true := rfl
@[simp] theorem halt_stalled (s : State) : (halt s).stalled = s.stalled := rfl
@[simp] theorem halt_hazardDetection (s : State) : (halt s).hazardDetection = s.hazardDetection := rfl
@[simp] theorem halt_forwarding (s : State) : (halt s).forwarding = s.forwarding := rfl
@[simp] theorem halt_cycles (s : State) : (halt s).cycles = s.cycles := rfl
@[simp] theorem halt_instructions (s : State) : (halt s).instructions = s.instructions := rfl
@[simp] theorem halt_stalls (s : State) : (halt s).stalls = s.stalls := rfl
@[simp] theorem halt_flushes (s : State) : (halt s).flushes = s.flushes := rfl
@[simp] theorem halt_forwards (s : State) : (halt s).forwards = s.forwards := rfl
@[simp] theorem halt_memReads (s : State) : (halt s).memReads = s.memReads := rfl
@[simp] theorem halt_memWrites (s : State) : (halt s).memWrites = s.memWrites := rfl
@[simp] theorem halt_breakpoints (s : State) : (halt s).breakpoints = s.breakpoints := rfl
@[simp] theorem halt_engine (s : State) : (halt s).engine = s.engine := rfl

/-! `writeReg`. -/

@[simp] theorem writeReg_pc (i : RegIdx) (v : Word) (s : State) : (writeReg i v s).pc = s.pc := by
  unfold writeReg; split <;> rfl
@[simp] theorem writeReg_nextPc (i : RegIdx) (v : Word) (s : State) : (writeReg i v s).nextPc = s.nextPc := by
  unfold writeReg; split <;> rfl
@[simp] theorem writeReg_mem (i : RegIdx) (v : Word) (s : State) : (writeReg i v s).mem = s.mem := by
  unfold writeReg; split <;> rfl
@[simp] theorem writeReg_ifId (i : RegIdx) (v : Word) (s : State) : (writeReg i v s).ifId = s.ifId := by
  unfold writeReg; split <;> rfl
@[simp] theorem writeReg_idEx (i : RegIdx) (v : Word) (s : State) : (writeReg i v s).idEx = s.idEx := by
  unfold writeReg; split <;> rfl
@[simp] theorem writeReg_exMem (i : RegIdx) (v : Word) (s : State) : (writeReg i v s).exMem = s.exMem := by
  unfold writeReg; split <;> rfl
@[simp] theorem writeReg_memWb (i : RegIdx) (v : Word) (s : State) : (writeReg i v s).memWb = s.memWb := by
  unfold writeReg; split <;> rfl
@[simp] theorem writeReg_halted (i : RegIdx) (v : Word) (s : State) : (writeReg i v s).halted = s.halted := by
  unfold writeReg; split <;> rfl
@[simp] theorem writeReg_stalled (i : RegIdx) (v : Word) (s : State) : (writeReg i v s).stalled = s.stalled := by
  unfold writeReg; split <;> rfl
@[simp] theorem writeReg_hazardDetection (i : RegIdx) (v : Word) (s : State) : (writeReg i v s).hazardDetection = s.hazardDetection := by
  unfold writeReg; split <;> rfl
@[simp] theorem writeReg_forwarding (i : RegIdx) (v : Word) (s : State) : (writeReg i v s).forwarding = s.forwarding := by
  unfold writeReg; split <;> rfl
@[simp] theorem writeReg_cycles (i : RegIdx) (v : Word) (s : State) : (writeReg i v s).cycles = s.cycles := by
  unfold writeReg; split <;> rfl
@[simp] theorem writeReg_instructions (i : RegIdx) (v : Word) (s : State) : (writeReg i v s).instructions = s.instructions := by
  unfold writeReg; split <;> rfl
@[simp] theorem writeReg_stalls (i : RegIdx) (v : Word) (s : State) : (writeReg i v s).stalls = s.stalls := by
  unfold writeReg; split <;> rfl
@[simp] theorem writeReg_flushes (i : RegIdx) (v : Word) (s : State) : (writeReg i v s).flushes = s.flushes := by
  unfold writeReg; split <;> rfl
@[simp] theorem writeReg_forwards (i : RegIdx) (v : Word) (s : State) : (writeReg i v s).forwards = s.forwards := by
  unfold writeReg; split <;> rfl
@[simp] theorem writeReg_memReads (i : RegIdx) (v : Word) (s : State) : (writeReg i v s).memReads = s.memReads := by
  unfold writeReg; split <;> rfl
@[simp] theorem writeReg_memWrites (i : RegIdx) (v : Word) (s : State) : (writeReg i v s).memWrites = s.memWrites := by
  unfold writeReg; split <;> rfl
@[simp] theorem writeReg_breakpoints (i : RegIdx) (v : Word) (s : State) : (writeReg i v s).breakpoints = s.breakpoints := by
  unfold writeReg; split <;> rfl
@[simp] theorem writeReg_engine (i : RegIdx) (v : Word) (s : State) : (writeReg i v s).engine = s.engine := by
  unfold writeReg; split <;> rfl

/-! `writeBack`. -/

@[simp] theorem writeBack_pc (i : Decoded) (v : Word) (s : State) : (writeBack i v s).pc = s.pc := by
  unfold writeBack; split <;> simp
@[simp] theorem writeBack_nextPc (i : Decoded) (v : Word) (s : State) : (writeBack i v s).nextPc = s.nextPc := by
  unfold writeBack; split <;> simp
@[simp] theorem writeBack_mem (i : Decoded) (v : Word) (s : State) : (writeBack i v s).mem = s.mem := by
  unfold writeBack; split <;> simp
@[simp] theorem writeBack_ifId (i : Decoded) (v : Word) (s : State) : (writeBack i v s).ifId = s.ifId := by
  unfold writeBack; split <;> simp
@[simp] theorem writeBack_idEx (i : Decoded) (v : Word) (s : State) : (writeBack i v s).idEx = s.idEx := by
  unfold writeBack; split <;> simp
@[simp] theorem writeBack_exMem (i : Decoded) (v : Word) (s : State) : (writeBack i v s).exMem = s.exMem := by
  unfold writeBack; split <;> simp
@[simp] theorem writeBack_memWb (i : Decoded) (v : Word) (s : State) : (writeBack i v s).memWb = s.memWb := by
  unfold writeBack; split <;> simp
@[simp] theorem writeBack_halted (i : Decoded) (v : Word) (s : State) : (writeBack i v s).halted = s.halted := by
  unfold writeBack; split <;> simp
@[simp] theorem writeBack_stalled (i : Decoded) (v : Word) (s : State) : (writeBack i v s).stalled = s.stalled := by
  unfold writeBack; split <;> simp
@[simp] theorem writeBack_hazardDetection (i : Decoded) (v : Word) (s : State) : (writeBack i v s).hazardDetection = s.hazardDetection := by
  unfold writeBack; split <;> simp
@[simp] theorem writeBack_forwarding (i : Decoded) (v : Word) (s : State) : (writeBack i v s).forwarding = s.forwarding := by
  unfold writeBack; split <;> simp
@[simp] theorem writeBack_cycles (i : Decoded) (v : Word) (s : State) : (writeBack i v s).cycles = s.cycles := by
  unfold writeBack; split <;> simp
@[simp] theorem writeBack_instructions (i : Decoded) (v : Word) (s : State) : (writeBack i v s).instructions = s.instructions := by
  unfold writeBack; split <;> simp
@[simp] theorem writeBack_stalls (i : Decoded) (v : Word) (s : State) : (writeBack i v s).stalls = s.stalls := by
  unfold writeBack; split <;> simp
@[simp] theorem writeBack_flushes (i : Decoded) (v : Word) (s : State) : (writeBack i v s).flushes = s.flushes := by
  unfold writeBack; split <;> simp
@[simp] theorem writeBack_forwards (i : Decoded) (v : Word) (s : State) : (writeBack i v s).forwards = s.forwards := by
  unfold writeBack; split <;> simp
@[simp] theorem writeBack_memReads (i : Decoded) (v : Word) (s : State) : (writeBack i v s).memReads = s.memReads := by
  unfold writeBack; split <;> simp
@[simp] theorem writeBack_memWrites (i : Decoded) (v : Word) (s : State) : (writeBack i v s).memWrites = s.memWrites := by
  unfold writeBack; split <;> simp
@[simp] theorem writeBack_breakpoints (i : Decoded) (v : Word) (s : State) : (writeBack i v s).breakpoints = s.breakpoints := by
  unfold writeBack; split <;> simp
@[simp] theorem writeBack_engine (i : Decoded) (v : Word) (s : State) : (writeBack i v s).engine = s.engine := by
  unfold writeBack; split <;> simp

/-! `accessMemory`. -/

@[simp] theorem accessMemory_regs (i : Decoded) (r b : Word) (s : State) : (accessMemory i r b s).regs = s.regs := by
  unfold accessMemory; split <;> (try split) <;> simp
@[simp] theorem accessMemory_pc (i : Decoded) (r b : Word) (s : State) : (accessMemory i r b s).pc = s.pc := by
  unfold accessMemory; split <;> (try split) <;> simp
@[simp] theorem accessMemory_nextPc (i : Decoded) (r b : Word) (s : State) : (accessMemory i r b s).nextPc = s.nextPc := by
  unfold accessMemory; split <;> (try split) <;> simp
@[simp] theorem accessMemory_ifId (i : Decoded) (r b : Word) (s : State) : (accessMemory i r b s).ifId = s.ifId := by
  unfold accessMemory; split <;> (try split) <;> simp
@[simp] theorem accessMemory_idEx (i : Decoded) (r b : Word) (s : State) : (accessMemory i r b s).idEx = s.idEx := by
  unfold accessMemory; split <;> (try split) <;> simp
@[simp] theorem accessMemory_exMem (i : Decoded) (r b : Word) (s : State) : (accessMemory i r b s).exMem = s.exMem := by
  unfold accessMemory; split <;> (try split) <;> simp
@[simp] theorem accessMemory_memWb (i : Decoded) (r b : Word) (s : State) : (accessMemory i r b s).memWb = s.memWb := by
  unfold accessMemory; split <;> (try split) <;> simp
@[simp] theorem accessMemory_halted (i : Decoded) (r b : Word) (s : State) : (accessMemory i r b s).halted = s.halted := by
  unfold accessMemory; split <;> (try split) <;> simp
@[simp] theorem accessMemory_stalled (i : Decoded) (r b : Word) (s : State) : (accessMemory i r b s).stalled = s.stalled := by
  unfold accessMemory; split <;> (try split) <;> simp
@[simp] theorem accessMemory_hazardDetection (i : Decoded) (r b : Word) (s : State) : (accessMemory i r b s).hazardDetection = s.hazardDetection := by
  unfold accessMemory; split <;> (try split) <;> simp
@[simp] theorem accessMemory_forwarding (i : Decoded) (r b : Word) (s : State) : (accessMemory i r b s).forwarding = s.forwarding := by
  unfold accessMemory; split <;> (try split) <;> simp
@[simp] theorem accessMemory_cycles (i : Decoded) (r b : Word) (s : State) : (accessMemory i r b s).cycles = s.cycles := by
  unfold accessMemory; split <;> (try split) <;> simp
@[simp] theorem accessMemory_instructions (i : Decoded) (r b : Word) (s : State) : (accessMemory i r b s).instructions = s.instructions := by
  unfold accessMemory; split <;> (try split) <;> simp
@[simp] theorem accessMemory_stalls (i : Decoded) (r b : Word) (s : State) : (accessMemory i r b s).stalls = s.stalls := by
  unfold accessMemory; split <;> (try split) <;> simp
@[simp] theorem accessMemory_flushes (i : Decoded) (r b : Word) (s : State) : (accessMemory i r b s).flushes = s.flushes := by
  unfold accessMemory; split <;> (try split) <;> simp
@[simp] theorem accessMemory_forwards (i : Decoded) (r b : Word) (s : State) : (accessMemory i r b s).forwards = s.forwards := by
  unfold accessMemory; split <;> (try split) <;> simp
@[simp] theorem accessMemory_breakpoints (i : Decoded) (r b : Word) (s : State) : (accessMemory i r b s).breakpoints = s.breakpoints := by
  unfold accessMemory; split <;> (try split) <;> simp
@[simp] theorem accessMemory_engine (i : Decoded) (r b : Word) (s : State) : (accessMemory i r b s).engine = s.engine := by
  unfold accessMemory; split <;> (try split) <;> simp

/-- Reading a register looks at the register file alone. -/
theorem readReg_of_regs {s t : State} (h : s.regs = t.regs) (i : RegIdx) : readReg s i = readReg t i := by
  simp [readReg, h]

end Sys2Proof.Machine
end

