-- ==== Sys2Proof/Laws/Ops.lean ====
section
/-! SUPPORT. The laws of the register operations (R10). -/

namespace Sys2Proof.Machine

/-- "Read of index 0 yields 0 regardless of stored value" (R10). -/
@[simp] theorem readReg_zero (s : State) : readReg s 0#5 = 0#32 := by
  simp [readReg]

/-- "`write(i, v)`: is a no-op if i=0" (R10). -/
@[simp] theorem writeReg_zero (v : Word) (s : State) : writeReg 0#5 v s = s := by
  simp [writeReg]

/-- Reading a register after writing one (R10). -/
theorem readReg_writeReg (i : RegIdx) (v : Word) (s : State) (j : RegIdx) :
    readReg (writeReg i v s) j = if j = i ∧ i ≠ 0#5 then v else readReg s j := by
  have hij : (i.toNat = j.toNat) = (j = i) := propext ⟨fun h => (BitVec.eq_of_toNat_eq h).symm, fun h => by rw [h]⟩
  by_cases hi : i = 0#5
  · simp [hi]
  · by_cases hj : j = 0#5
    · have : ¬ (0#5 = i) := fun h => hi h.symm
      simp [hj, this]
    · simp only [readReg, writeReg, hi, hj, if_false, ne_eq, not_false_eq_true, and_true, Vector.getElem_set, hij]

/-- Writing a register leaves every other one. -/
theorem readReg_writeReg_of_ne {i j : RegIdx} (h : j ≠ i) (v : Word) (s : State) :
    readReg (writeReg i v s) j = readReg s j := by
  rw [readReg_writeReg, if_neg (fun c => h c.1)]

/-- The stored value of `x0` never changes (R10). -/
theorem writeReg_stored_zero (i : RegIdx) (v : Word) (s : State) : (writeReg i v s).regs[0] = s.regs[0] := by
  unfold writeReg
  split
  · rfl
  · rename_i hi
    have : i.toNat ≠ 0 := fun h => hi (BitVec.eq_of_toNat_eq h)
    simp [this]

end Sys2Proof.Machine
end

