-- ==== Sys2Proof/Laws/PerInstr.lean ====
section
/-! SUPPORT. Families of facts about every instruction as syntax, one lemma per constructor of `Instr`. -/

namespace Sys2Proof.Laws.ControlBits

/-- What the control bits of a kind (R81) say of one another: a load reads memory into a register, a store and a branch write
no register, a jump does, no kind has two of the four roles, and a kind that takes its ALU operand from the immediate has a
format with an immediate. -/
abbrev Consistent (k : Kind) : Prop :=
  (k.isLoad = true → k.writesReg = true ∧ k.usesImm = true) ∧
  (k.isStore = true → k.writesReg = false ∧ k.usesImm = true) ∧
  (k.isBranch = true → k.writesReg = false ∧ k.usesImm = false) ∧
  (k.isJump = true → k.writesReg = true) ∧
  k.isLoad.toNat + k.isStore.toNat + k.isBranch.toNat + k.isJump.toNat ≤ 1 ∧
  (k.usesImm = true → k.format ≠ .r ∧ k.format ≠ .unknown)

/-- The control bits of an instruction are consistent. -/
def Statement (i : Instr) : Prop := Consistent i.kind

theorem consistent (k : Kind) : Consistent k := by
  unfold Consistent; cases k <;> decide

theorem lui (x0 : RegIdx) (x1 : BitVec 20) : Statement (.lui x0 x1) := consistent _
theorem auipc (x0 : RegIdx) (x1 : BitVec 20) : Statement (.auipc x0 x1) := consistent _
theorem jal (x0 : RegIdx) (x1 : BitVec 21) : Statement (.jal x0 x1) := consistent _
theorem jalr (x0 x1 : RegIdx) (x2 : BitVec 12) : Statement (.jalr x0 x1 x2) := consistent _
theorem beq (x0 x1 : RegIdx) (x2 : BitVec 13) : Statement (.beq x0 x1 x2) := consistent _
theorem bne (x0 x1 : RegIdx) (x2 : BitVec 13) : Statement (.bne x0 x1 x2) := consistent _
theorem blt (x0 x1 : RegIdx) (x2 : BitVec 13) : Statement (.blt x0 x1 x2) := consistent _
theorem bge (x0 x1 : RegIdx) (x2 : BitVec 13) : Statement (.bge x0 x1 x2) := consistent _
theorem bltu (x0 x1 : RegIdx) (x2 : BitVec 13) : Statement (.bltu x0 x1 x2) := consistent _
theorem bgeu (x0 x1 : RegIdx) (x2 : BitVec 13) : Statement (.bgeu x0 x1 x2) := consistent _
theorem lb (x0 x1 : RegIdx) (x2 : BitVec 12) : Statement (.lb x0 x1 x2) := consistent _
theorem lh (x0 x1 : RegIdx) (x2 : BitVec 12) : Statement (.lh x0 x1 x2) := consistent _
theorem lw (x0 x1 : RegIdx) (x2 : BitVec 12) : Statement (.lw x0 x1 x2) := consistent _
theorem lbu (x0 x1 : RegIdx) (x2 : BitVec 12) : Statement (.lbu x0 x1 x2) := consistent _
theorem lhu (x0 x1 : RegIdx) (x2 : BitVec 12) : Statement (.lhu x0 x1 x2) := consistent _
theorem sb (x0 x1 : RegIdx) (x2 : BitVec 12) : Statement (.sb x0 x1 x2) := consistent _
theorem sh (x0 x1 : RegIdx) (x2 : BitVec 12) : Statement (.sh x0 x1 x2) := consistent _
theorem sw (x0 x1 : RegIdx) (x2 : BitVec 12) : Statement (.sw x0 x1 x2) := consistent _
theorem addi (x0 x1 : RegIdx) (x2 : BitVec 12) : Statement (.addi x0 x1 x2) := consistent _
theorem slti (x0 x1 : RegIdx) (x2 : BitVec 12) : Statement (.slti x0 x1 x2) := consistent _
theorem sltiu (x0 x1 : RegIdx) (x2 : BitVec 12) : Statement (.sltiu x0 x1 x2) := consistent _
theorem xori (x0 x1 : RegIdx) (x2 : BitVec 12) : Statement (.xori x0 x1 x2) := consistent _
theorem ori (x0 x1 : RegIdx) (x2 : BitVec 12) : Statement (.ori x0 x1 x2) := consistent _
theorem andi (x0 x1 : RegIdx) (x2 : BitVec 12) : Statement (.andi x0 x1 x2) := consistent _
theorem slli (x0 x1 : RegIdx) (x2 : BitVec 5) : Statement (.slli x0 x1 x2) := consistent _
theorem srli (x0 x1 : RegIdx) (x2 : BitVec 5) : Statement (.srli x0 x1 x2) := consistent _
theorem srai (x0 x1 : RegIdx) (x2 : BitVec 5) : Statement (.srai x0 x1 x2) := consistent _
theorem add (x0 x1 : RegIdx) (x2 : RegIdx) : Statement (.add x0 x1 x2) := consistent _
theorem sub (x0 x1 : RegIdx) (x2 : RegIdx) : Statement (.sub x0 x1 x2) := consistent _
theorem sll (x0 x1 : RegIdx) (x2 : RegIdx) : Statement (.sll x0 x1 x2) := consistent _
theorem slt (x0 x1 : RegIdx) (x2 : RegIdx) : Statement (.slt x0 x1 x2) := consistent _
theorem sltu (x0 x1 : RegIdx) (x2 : RegIdx) : Statement (.sltu x0 x1 x2) := consistent _
theorem xor (x0 x1 : RegIdx) (x2 : RegIdx) : Statement (.xor x0 x1 x2) := consistent _
theorem srl (x0 x1 : RegIdx) (x2 : RegIdx) : Statement (.srl x0 x1 x2) := consistent _
theorem sra (x0 x1 : RegIdx) (x2 : RegIdx) : Statement (.sra x0 x1 x2) := consistent _
theorem or (x0 x1 : RegIdx) (x2 : RegIdx) : Statement (.or x0 x1 x2) := consistent _
theorem and (x0 x1 : RegIdx) (x2 : RegIdx) : Statement (.and x0 x1 x2) := consistent _
theorem mul (x0 x1 : RegIdx) (x2 : RegIdx) : Statement (.mul x0 x1 x2) := consistent _
theorem mulh (x0 x1 : RegIdx) (x2 : RegIdx) : Statement (.mulh x0 x1 x2) := consistent _
theorem mulhsu (x0 x1 : RegIdx) (x2 : RegIdx) : Statement (.mulhsu x0 x1 x2) := consistent _
theorem mulhu (x0 x1 : RegIdx) (x2 : RegIdx) : Statement (.mulhu x0 x1 x2) := consistent _
theorem div (x0 x1 : RegIdx) (x2 : RegIdx) : Statement (.div x0 x1 x2) := consistent _
theorem divu (x0 x1 : RegIdx) (x2 : RegIdx) : Statement (.divu x0 x1 x2) := consistent _
theorem rem (x0 x1 : RegIdx) (x2 : RegIdx) : Statement (.rem x0 x1 x2) := consistent _
theorem remu (x0 x1 : RegIdx) (x2 : RegIdx) : Statement (.remu x0 x1 x2) := consistent _
theorem ecall : Statement (.ecall) := consistent _
theorem ebreak : Statement (.ebreak) := consistent _
theorem fence (x0 : BitVec 25) : Statement (.fence x0) := consistent _
theorem unknown (x0 : Word) : Statement (.unknown x0) := consistent _

end Sys2Proof.Laws.ControlBits
end

