-- ==== Sys2Proof/Laws/Pipeline.lean ====
section
/-! SUPPORT. What each stage of the pipeline leaves of every field, what WB, MEM and EX together do, and the three shapes of a
tick. -/

namespace Sys2Proof.Machine

/-! `redirect`. -/

@[simp] theorem redirect_regs (a : Address) (s : State) : (redirect a s).regs = s.regs := rfl
@[simp] theorem redirect_pc (a : Address) (s : State) : (redirect a s).pc = a := rfl
@[simp] theorem redirect_nextPc (a : Address) (s : State) : (redirect a s).nextPc = a + 4#32 := rfl
@[simp] theorem redirect_mem (a : Address) (s : State) : (redirect a s).mem = s.mem := rfl
@[simp] theorem redirect_ifId (a : Address) (s : State) : (redirect a s).ifId = flushedIfId := rfl
@[simp] theorem redirect_idEx (a : Address) (s : State) : (redirect a s).idEx = flushedIdEx := rfl
@[simp] theorem redirect_exMem (a : Address) (s : State) : (redirect a s).exMem = s.exMem := rfl
@[simp] theorem redirect_memWb (a : Address) (s : State) : (redirect a s).memWb = s.memWb := rfl
@[simp] theorem redirect_halted (a : Address) (s : State) : (redirect a s).halted = s.halted := rfl
@[simp] theorem redirect_stalled (a : Address) (s : State) : (redirect a s).stalled = s.stalled := rfl
@[simp] theorem redirect_hazardDetection (a : Address) (s : State) : (redirect a s).hazardDetection = s.hazardDetection := rfl
@[simp] theorem redirect_forwarding (a : Address) (s : State) : (redirect a s).forwarding = s.forwarding := rfl
@[simp] theorem redirect_cycles (a : Address) (s : State) : (redirect a s).cycles = s.cycles := rfl
@[simp] theorem redirect_instructions (a : Address) (s : State) : (redirect a s).instructions = s.instructions := rfl
@[simp] theorem redirect_stalls (a : Address) (s : State) : (redirect a s).stalls = s.stalls := rfl
@[simp] theorem redirect_flushes (a : Address) (s : State) : (redirect a s).flushes = s.flushes + 2 := rfl
@[simp] theorem redirect_forwards (a : Address) (s : State) : (redirect a s).forwards = s.forwards := rfl
@[simp] theorem redirect_memReads (a : Address) (s : State) : (redirect a s).memReads = s.memReads := rfl
@[simp] theorem redirect_memWrites (a : Address) (s : State) : (redirect a s).memWrites = s.memWrites := rfl
@[simp] theorem redirect_breakpoints (a : Address) (s : State) : (redirect a s).breakpoints = s.breakpoints := rfl
@[simp] theorem redirect_engine (a : Address) (s : State) : (redirect a s).engine = s.engine := rfl

/-! `stallBubble`. -/

@[simp] theorem stallBubble_regs (s : State) : (stallBubble s).regs = s.regs := rfl
@[simp] theorem stallBubble_pc (s : State) : (stallBubble s).pc = s.pc := rfl
@[simp] theorem stallBubble_nextPc (s : State) : (stallBubble s).nextPc = s.nextPc := rfl
@[simp] theorem stallBubble_mem (s : State) : (stallBubble s).mem = s.mem := rfl
@[simp] theorem stallBubble_ifId (s : State) : (stallBubble s).ifId = s.ifId := rfl
@[simp] theorem stallBubble_idEx (s : State) : (stallBubble s).idEx = flushedIdEx := rfl
@[simp] theorem stallBubble_exMem (s : State) : (stallBubble s).exMem = s.exMem := rfl
@[simp] theorem stallBubble_memWb (s : State) : (stallBubble s).memWb = s.memWb := rfl
@[simp] theorem stallBubble_halted (s : State) : (stallBubble s).halted = s.halted := rfl
@[simp] theorem stallBubble_stalled (s : State) : (stallBubble s).stalled = s.stalled := rfl
@[simp] theorem stallBubble_hazardDetection (s : State) : (stallBubble s).hazardDetection = s.hazardDetection := rfl
@[simp] theorem stallBubble_forwarding (s : State) : (stallBubble s).forwarding = s.forwarding := rfl
@[simp] theorem stallBubble_cycles (s : State) : (stallBubble s).cycles = s.cycles := rfl
@[simp] theorem stallBubble_instructions (s : State) : (stallBubble s).instructions = s.instructions := rfl
@[simp] theorem stallBubble_stalls (s : State) : (stallBubble s).stalls = s.stalls + 1 := rfl
@[simp] theorem stallBubble_flushes (s : State) : (stallBubble s).flushes = s.flushes := rfl
@[simp] theorem stallBubble_forwards (s : State) : (stallBubble s).forwards = s.forwards := rfl
@[simp] theorem stallBubble_memReads (s : State) : (stallBubble s).memReads = s.memReads := rfl
@[simp] theorem stallBubble_memWrites (s : State) : (stallBubble s).memWrites = s.memWrites := rfl
@[simp] theorem stallBubble_breakpoints (s : State) : (stallBubble s).breakpoints = s.breakpoints := rfl
@[simp] theorem stallBubble_engine (s : State) : (stallBubble s).engine = s.engine := rfl

/-! `ifStage`. -/

@[simp] theorem ifStage_regs (s : State) : (ifStage s).regs = s.regs := rfl
@[simp] theorem ifStage_pc (s : State) : (ifStage s).pc = s.nextPc := rfl
@[simp] theorem ifStage_nextPc (s : State) : (ifStage s).nextPc = s.nextPc + 4#32 := rfl
@[simp] theorem ifStage_mem (s : State) : (ifStage s).mem = s.mem := rfl
@[simp] theorem ifStage_ifId (s : State) : (ifStage s).ifId = { raw := s.mem.readWord s.pc, pc := s.pc, pc4 := s.pc + 4#32, valid := true } := rfl
@[simp] theorem ifStage_idEx (s : State) : (ifStage s).idEx = s.idEx := rfl
@[simp] theorem ifStage_exMem (s : State) : (ifStage s).exMem = s.exMem := rfl
@[simp] theorem ifStage_memWb (s : State) : (ifStage s).memWb = s.memWb := rfl
@[simp] theorem ifStage_halted (s : State) : (ifStage s).halted = s.halted := rfl
@[simp] theorem ifStage_stalled (s : State) : (ifStage s).stalled = s.stalled := rfl
@[simp] theorem ifStage_hazardDetection (s : State) : (ifStage s).hazardDetection = s.hazardDetection := rfl
@[simp] theorem ifStage_forwarding (s : State) : (ifStage s).forwarding = s.forwarding := rfl
@[simp] theorem ifStage_cycles (s : State) : (ifStage s).cycles = s.cycles := rfl
@[simp] theorem ifStage_instructions (s : State) : (ifStage s).instructions = s.instructions := rfl
@[simp] theorem ifStage_stalls (s : State) : (ifStage s).stalls = s.stalls := rfl
@[simp] theorem ifStage_flushes (s : State) : (ifStage s).flushes = s.flushes := rfl
@[simp] theorem ifStage_forwards (s : State) : (ifStage s).forwards = s.forwards := rfl
@[simp] theorem ifStage_memReads (s : State) : (ifStage s).memReads = s.memReads + fetchCount := rfl
@[simp] theorem ifStage_memWrites (s : State) : (ifStage s).memWrites = s.memWrites := rfl
@[simp] theorem ifStage_breakpoints (s : State) : (ifStage s).breakpoints = s.breakpoints := rfl
@[simp] theorem ifStage_engine (s : State) : (ifStage s).engine = s.engine := rfl

/-! `idStage`. -/

@[simp] theorem idStage_regs (s : State) : (idStage s).regs = s.regs := by
  unfold idStage; split <;> rfl
@[simp] theorem idStage_pc (s : State) : (idStage s).pc = s.pc := by
  unfold idStage; split <;> rfl
@[simp] theorem idStage_nextPc (s : State) : (idStage s).nextPc = s.nextPc := by
  unfold idStage; split <;> rfl
@[simp] theorem idStage_mem (s : State) : (idStage s).mem = s.mem := by
  unfold idStage; split <;> rfl
@[simp] theorem idStage_ifId (s : State) : (idStage s).ifId = s.ifId := by
  unfold idStage; split <;> rfl
@[simp] theorem idStage_exMem (s : State) : (idStage s).exMem = s.exMem := by
  unfold idStage; split <;> rfl
@[simp] theorem idStage_memWb (s : State) : (idStage s).memWb = s.memWb := by
  unfold idStage; split <;> rfl
@[simp] theorem idStage_halted (s : State) : (idStage s).halted = s.halted := by
  unfold idStage; split <;> rfl
@[simp] theorem idStage_stalled (s : State) : (idStage s).stalled = s.stalled := by
  unfold idStage; split <;> rfl
@[simp] theorem idStage_hazardDetection (s : State) : (idStage s).hazardDetection = s.hazardDetection := by
  unfold idStage; split <;> rfl
@[simp] theorem idStage_forwarding (s : State) : (idStage s).forwarding = s.forwarding := by
  unfold idStage; split <;> rfl
@[simp] theorem idStage_cycles (s : State) : (idStage s).cycles = s.cycles := by
  unfold idStage; split <;> rfl
@[simp] theorem idStage_instructions (s : State) : (idStage s).instructions = s.instructions := by
  unfold idStage; split <;> rfl
@[simp] theorem idStage_stalls (s : State) : (idStage s).stalls = s.stalls := by
  unfold idStage; split <;> rfl
@[simp] theorem idStage_flushes (s : State) : (idStage s).flushes = s.flushes := by
  unfold idStage; split <;> rfl
@[simp] theorem idStage_forwards (s : State) : (idStage s).forwards = s.forwards := by
  unfold idStage; split <;> rfl
@[simp] theorem idStage_memReads (s : State) : (idStage s).memReads = s.memReads := by
  unfold idStage; split <;> rfl
@[simp] theorem idStage_memWrites (s : State) : (idStage s).memWrites = s.memWrites := by
  unfold idStage; split <;> rfl
@[simp] theorem idStage_breakpoints (s : State) : (idStage s).breakpoints = s.breakpoints := by
  unfold idStage; split <;> rfl
@[simp] theorem idStage_engine (s : State) : (idStage s).engine = s.engine := by
  unfold idStage; split <;> rfl

/-! `wbStage`. -/

@[simp] theorem wbStage_pc (m : MemWb) (s : State) : (wbStage m s).pc = s.pc := by
  unfold wbStage; dsimp only; split <;> (try split) <;> simp
@[simp] theorem wbStage_nextPc (m : MemWb) (s : State) : (wbStage m s).nextPc = s.nextPc := by
  unfold wbStage; dsimp only; split <;> (try split) <;> simp
@[simp] theorem wbStage_mem (m : MemWb) (s : State) : (wbStage m s).mem = s.mem := by
  unfold wbStage; dsimp only; split <;> (try split) <;> simp
@[simp] theorem wbStage_ifId (m : MemWb) (s : State) : (wbStage m s).ifId = s.ifId := by
  unfold wbStage; dsimp only; split <;> (try split) <;> simp
@[simp] theorem wbStage_idEx (m : MemWb) (s : State) : (wbStage m s).idEx = s.idEx := by
  unfold wbStage; dsimp only; split <;> (try split) <;> simp
@[simp] theorem wbStage_exMem (m : MemWb) (s : State) : (wbStage m s).exMem = s.exMem := by
  unfold wbStage; dsimp only; split <;> (try split) <;> simp
@[simp] theorem wbStage_memWb (m : MemWb) (s : State) : (wbStage m s).memWb = s.memWb := by
  unfold wbStage; dsimp only; split <;> (try split) <;> simp
@[simp] theorem wbStage_stalled (m : MemWb) (s : State) : (wbStage m s).stalled = s.stalled := by
  unfold wbStage; dsimp only; split <;> (try split) <;> simp
@[simp] theorem wbStage_hazardDetection (m : MemWb) (s : State) : (wbStage m s).hazardDetection = s.hazardDetection := by
  unfold wbStage; dsimp only; split <;> (try split) <;> simp
@[simp] theorem wbStage_forwarding (m : MemWb) (s : State) : (wbStage m s).forwarding = s.forwarding := by
  unfold wbStage; dsimp only; split <;> (try split) <;> simp
@[simp] theorem wbStage_cycles (m : MemWb) (s : State) : (wbStage m s).cycles = s.cycles := by
  unfold wbStage; dsimp only; split <;> (try split) <;> simp
@[simp] theorem wbStage_instructions (m : MemWb) (s : State) : (wbStage m s).instructions = s.instructions := by
  unfold wbStage; dsimp only; split <;> (try split) <;> simp
@[simp] theorem wbStage_stalls (m : MemWb) (s : State) : (wbStage m s).stalls = s.stalls := by
  unfold wbStage; dsimp only; split <;> (try split) <;> simp
@[simp] theorem wbStage_flushes (m : MemWb) (s : State) : (wbStage m s).flushes = s.flushes := by
  unfold wbStage; dsimp only; split <;> (try split) <;> simp
@[simp] theorem wbStage_forwards (m : MemWb) (s : State) : (wbStage m s).forwards = s.forwards := by
  unfold wbStage; dsimp only; split <;> (try split) <;> simp
@[simp] theorem wbStage_memReads (m : MemWb) (s : State) : (wbStage m s).memReads = s.memReads := by
  unfold wbStage; dsimp only; split <;> (try split) <;> simp
@[simp] theorem wbStage_memWrites (m : MemWb) (s : State) : (wbStage m s).memWrites = s.memWrites := by
  unfold wbStage; dsimp only; split <;> (try split) <;> simp
@[simp] theorem wbStage_breakpoints (m : MemWb) (s : State) : (wbStage m s).breakpoints = s.breakpoints := by
  unfold wbStage; dsimp only; split <;> (try split) <;> simp
@[simp] theorem wbStage_engine (m : MemWb) (s : State) : (wbStage m s).engine = s.engine := by
  unfold wbStage; dsimp only; split <;> (try split) <;> simp

/-! `memStage`. -/

@[simp] theorem memStage_regs (e : ExMem) (s : State) : (memStage e s).regs = s.regs := by
  unfold memStage; split <;> simp
@[simp] theorem memStage_pc (e : ExMem) (s : State) : (memStage e s).pc = s.pc := by
  unfold memStage; split <;> simp
@[simp] theorem memStage_nextPc (e : ExMem) (s : State) : (memStage e s).nextPc = s.nextPc := by
  unfold memStage; split <;> simp
@[simp] theorem memStage_ifId (e : ExMem) (s : State) : (memStage e s).ifId = s.ifId := by
  unfold memStage; split <;> simp
@[simp] theorem memStage_idEx (e : ExMem) (s : State) : (memStage e s).idEx = s.idEx := by
  unfold memStage; split <;> simp
@[simp] theorem memStage_exMem (e : ExMem) (s : State) : (memStage e s).exMem = s.exMem := by
  unfold memStage; split <;> simp
@[simp] theorem memStage_halted (e : ExMem) (s : State) : (memStage e s).halted = s.halted := by
  unfold memStage; split <;> simp
@[simp] theorem memStage_stalled (e : ExMem) (s : State) : (memStage e s).stalled = s.stalled := by
  unfold memStage; split <;> simp
@[simp] theorem memStage_hazardDetection (e : ExMem) (s : State) : (memStage e s).hazardDetection = s.hazardDetection := by
  unfold memStage; split <;> simp
@[simp] theorem memStage_forwarding (e : ExMem) (s : State) : (memStage e s).forwarding = s.forwarding := by
  unfold memStage; split <;> simp
@[simp] theorem memStage_cycles (e : ExMem) (s : State) : (memStage e s).cycles = s.cycles := by
  unfold memStage; split <;> simp
@[simp] theorem memStage_stalls (e : ExMem) (s : State) : (memStage e s).stalls = s.stalls := by
  unfold memStage; split <;> simp
@[simp] theorem memStage_flushes (e : ExMem) (s : State) : (memStage e s).flushes = s.flushes := by
  unfold memStage; split <;> simp
@[simp] theorem memStage_forwards (e : ExMem) (s : State) : (memStage e s).forwards = s.forwards := by
  unfold memStage; split <;> simp
@[simp] theorem memStage_breakpoints (e : ExMem) (s : State) : (memStage e s).breakpoints = s.breakpoints := by
  unfold memStage; split <;> simp
@[simp] theorem memStage_engine (e : ExMem) (s : State) : (memStage e s).engine = s.engine := by
  unfold memStage; split <;> simp

/-! `exStage`. -/

@[simp] theorem exStage_regs (d : IdEx) (e : ExMem) (m : MemWb) (s : State) : (exStage d e m s).regs = s.regs := by
  unfold exStage; dsimp only; split <;> (try split) <;> simp
@[simp] theorem exStage_mem (d : IdEx) (e : ExMem) (m : MemWb) (s : State) : (exStage d e m s).mem = s.mem := by
  unfold exStage; dsimp only; split <;> (try split) <;> simp
@[simp] theorem exStage_memWb (d : IdEx) (e : ExMem) (m : MemWb) (s : State) : (exStage d e m s).memWb = s.memWb := by
  unfold exStage; dsimp only; split <;> (try split) <;> simp
@[simp] theorem exStage_halted (d : IdEx) (e : ExMem) (m : MemWb) (s : State) : (exStage d e m s).halted = s.halted := by
  unfold exStage; dsimp only; split <;> (try split) <;> simp
@[simp] theorem exStage_stalled (d : IdEx) (e : ExMem) (m : MemWb) (s : State) : (exStage d e m s).stalled = s.stalled := by
  unfold exStage; dsimp only; split <;> (try split) <;> simp
@[simp] theorem exStage_hazardDetection (d : IdEx) (e : ExMem) (m : MemWb) (s : State) : (exStage d e m s).hazardDetection = s.hazardDetection := by
  unfold exStage; dsimp only; split <;> (try split) <;> simp
@[simp] theorem exStage_forwarding (d : IdEx) (e : ExMem) (m : MemWb) (s : State) : (exStage d e m s).forwarding = s.forwarding := by
  unfold exStage; dsimp only; split <;> (try split) <;> simp
@[simp] theorem exStage_cycles (d : IdEx) (e : ExMem) (m : MemWb) (s : State) : (exStage d e m s).cycles = s.cycles := by
  unfold exStage; dsimp only; split <;> (try split) <;> simp
@[simp] theorem exStage_instructions (d : IdEx) (e : ExMem) (m : MemWb) (s : State) : (exStage d e m s).instructions = s.instructions := by
  unfold exStage; dsimp only; split <;> (try split) <;> simp
@[simp] theorem exStage_stalls (d : IdEx) (e : ExMem) (m : MemWb) (s : State) : (exStage d e m s).stalls = s.stalls := by
  unfold exStage; dsimp only; split <;> (try split) <;> simp
@[simp] theorem exStage_memReads (d : IdEx) (e : ExMem) (m : MemWb) (s : State) : (exStage d e m s).memReads = s.memReads := by
  unfold exStage; dsimp only; split <;> (try split) <;> simp
@[simp] theorem exStage_memWrites (d : IdEx) (e : ExMem) (m : MemWb) (s : State) : (exStage d e m s).memWrites = s.memWrites := by
  unfold exStage; dsimp only; split <;> (try split) <;> simp
@[simp] theorem exStage_breakpoints (d : IdEx) (e : ExMem) (m : MemWb) (s : State) : (exStage d e m s).breakpoints = s.breakpoints := by
  unfold exStage; dsimp only; split <;> (try split) <;> simp
@[simp] theorem exStage_engine (d : IdEx) (e : ExMem) (m : MemWb) (s : State) : (exStage d e m s).engine = s.engine := by
  unfold exStage; dsimp only; split <;> (try split) <;> simp

/-! What a stage changes. -/

theorem wbStage_valid (m : MemWb) (s : State) (h : m.valid = true) :
    (wbStage m s).regs = (writeBack m.ins (writeBackValue m.ins m.memData m.aluResult) s).regs ∧
    (wbStage m s).halted = (decide (m.ins.kind = .ecall) || s.halted) := by
  unfold wbStage
  by_cases hk : m.ins.kind = .ecall <;> simp [h, hk]

theorem wbStage_invalid (m : MemWb) (s : State) (h : m.valid = false) : wbStage m s = s := by
  simp [wbStage, h]

theorem memStage_mem (e : ExMem) (s : State) :
    (memStage e s).mem = if e.valid ∧ e.ins.memRead = false ∧ e.ins.memWrite then storeValue e.ins.kind s.mem e.aluResult e.rs2Val
      else s.mem := by
  unfold memStage accessMemory
  cases e.valid <;> cases e.ins.memRead <;> cases e.ins.memWrite <;> simp

theorem memStage_memWb (e : ExMem) (s : State) :
    (memStage e s).memWb =
      if e.valid then { ins := e.ins, aluResult := e.aluResult, memData := memDataOf e.ins e.aluResult s, valid := true }
      else flushedMemWb := by
  unfold memStage
  split <;> rfl

theorem exStage_invalid (d : IdEx) (e : ExMem) (m : MemWb) (s : State) (h : d.valid = false) :
    exStage d e m s = { s with exMem := flushedExMem } := by
  simp [exStage, h]

/-- EX on a valid ID/EX that does not redirect: only EX/MEM and `forwards` change. -/
theorem exStage_sequential (d : IdEx) (e : ExMem) (m : MemWb) (s : State) (h : d.valid = true)
    (hx : takenOf d.ins (forwardOperand s.forwarding d.ins.rs1 d.rs1Val e m).1
      (forwardOperand s.forwarding d.ins.rs2 d.rs2Val e m).1 = false) :
    exStage d e m s =
      { s with
        exMem := executed d (forwardOperand s.forwarding d.ins.rs1 d.rs1Val e m).1
          (forwardOperand s.forwarding d.ins.rs2 d.rs2Val e m).1
        forwards := s.forwards + (forwardOperand s.forwarding d.ins.rs1 d.rs1Val e m).2 +
          (forwardOperand s.forwarding d.ins.rs2 d.rs2Val e m).2 } := by
  simp [exStage, h, detectBranchHazard, executed, hx]

/-- EX on a valid ID/EX that redirects. -/
theorem exStage_redirects (d : IdEx) (e : ExMem) (m : MemWb) (s : State) (h : d.valid = true)
    (hx : takenOf d.ins (forwardOperand s.forwarding d.ins.rs1 d.rs1Val e m).1
      (forwardOperand s.forwarding d.ins.rs2 d.rs2Val e m).1 = true) :
    exStage d e m s =
      redirect (targetOf d.ins d.pc (forwardOperand s.forwarding d.ins.rs1 d.rs1Val e m).1
          (forwardOperand s.forwarding d.ins.rs2 d.rs2Val e m).1)
        { s with
          exMem := executed d (forwardOperand s.forwarding d.ins.rs1 d.rs1Val e m).1
            (forwardOperand s.forwarding d.ins.rs2 d.rs2Val e m).1
          forwards := s.forwards + (forwardOperand s.forwarding d.ins.rs1 d.rs1Val e m).2 +
            (forwardOperand s.forwarding d.ins.rs2 d.rs2Val e m).2 } := by
  simp [exStage, h, detectBranchHazard, executed, hx]

theorem idStage_idEx (s : State) :
    (idStage s).idEx =
      if s.ifId.valid then
        { ins := decodeRecord s.ifId.raw s.ifId.pc
          rs1Val := readReg s (decodeRecord s.ifId.raw s.ifId.pc).rs1
          rs2Val := readReg s (decodeRecord s.ifId.raw s.ifId.pc).rs2
          pc := s.ifId.pc, pc4 := s.ifId.pc4, valid := true }
      else flushedIdEx := by
  unfold idStage
  split <;> rfl

/-! WB, MEM and EX together. -/

@[simp] theorem backEnd_regs (s : State) : (backEnd s).regs = (wbStage s.memWb { s with stalled := stallNow s }).regs := by
  simp [backEnd]

@[simp] theorem backEnd_mem (s : State) : (backEnd s).mem = (memStage s.exMem s).mem := by
  simp [backEnd, memStage_mem]

@[simp] theorem backEnd_stalled (s : State) : (backEnd s).stalled = stallNow s := by
  simp [backEnd]

@[simp] theorem backEnd_hazardDetection (s : State) : (backEnd s).hazardDetection = s.hazardDetection := by
  simp [backEnd]

@[simp] theorem backEnd_forwarding (s : State) : (backEnd s).forwarding = s.forwarding := by
  simp [backEnd]

@[simp] theorem backEnd_breakpoints (s : State) : (backEnd s).breakpoints = s.breakpoints := by
  simp [backEnd]

@[simp] theorem backEnd_engine (s : State) : (backEnd s).engine = s.engine := by
  simp [backEnd]

@[simp] theorem backEnd_cycles (s : State) : (backEnd s).cycles = s.cycles := by
  simp [backEnd]

@[simp] theorem backEnd_stalls (s : State) : (backEnd s).stalls = s.stalls := by
  simp [backEnd]

/-! The three shapes of a tick (R290). -/

theorem tick_halted (s : State) (h : s.halted = true) : tick s = s := by
  simp [tick, h]

theorem tick_stalled (s : State) (h : s.halted = false) (hs : stallNow s = true) :
    tick s = { stallBubble (backEnd s) with cycles := s.cycles + 1 } := by
  simp [tick, h, hs]

theorem tick_flowing (s : State) (h : s.halted = false) (hs : stallNow s = false) :
    tick s = { ifStage (idStage (backEnd s)) with cycles := s.cycles + 1 } := by
  simp [tick, h, hs]

/-- A step of the pipeline engine is a tick. -/
theorem step_pipeline (s : State) (h : s.engine = .pipeline) : step s = .next (tick s) := by
  simp [step, h]

/-- A step of the single-cycle engine that is not halted fetches, decodes and executes. -/
theorem step_singleCycle (s : State) (h : s.engine = .singleCycle) (hh : s.halted = false) :
    step s = exec (decodeWord (fetchWord s)) (countFetch s) := by
  simp [step, singleStep, h, hh]

end Sys2Proof.Machine
end

