-- ==== Sys2Proof/Tests/Slice0.lean ====
section
/-! SUPPORT. Tests of the model on words and values printed in spec/95_test_vectors.md, and a witness for the hypotheses of
every obligation that has some. -/

namespace Sys2Proof.Tests

open Sys2Proof Sys2Proof.Machine Sys2Proof.Safety

/-! WellFormed: each check refuses an ill-formed term (R75, R77, R84), and lets the boundary value pass. -/

theorem test_wellFormed_odd_branch_offset : (Instr.beq 1#5 2#5 17#13).wellFormed = false := by decide
theorem test_wellFormed_odd_branch_offset_other_kinds :
    (Instr.bne 1#5 2#5 1#13).wellFormed = false ∧ (Instr.blt 1#5 2#5 1#13).wellFormed = false ∧
    (Instr.bge 1#5 2#5 1#13).wellFormed = false ∧ (Instr.bltu 1#5 2#5 1#13).wellFormed = false ∧
    (Instr.bgeu 1#5 2#5 1#13).wellFormed = false := by decide
theorem test_wellFormed_largest_branch_offset : (Instr.beq 1#5 2#5 4094#13).wellFormed = true := by decide
theorem test_wellFormed_odd_jump_offset : (Instr.jal 1#5 15#21).wellFormed = false := by decide
theorem test_wellFormed_largest_jump_offset : (Instr.jal 1#5 1048574#21).wellFormed = true := by decide
/-- A word of each opcode the decoder knows, held by the catch-all constructor: refused. -/
theorem test_wellFormed_unknown_of_known_word :
    (Instr.unknown 0x123452B7#32).wellFormed = false ∧ (Instr.unknown 0x00628863#32).wellFormed = false ∧
    (Instr.unknown 0x00028303#32).wellFormed = false ∧ (Instr.unknown 0x006280A3#32).wellFormed = false ∧
    (Instr.unknown 0x00000073#32).wellFormed = false ∧ (Instr.unknown 0x00100073#32).wellFormed = false ∧
    (Instr.unknown 0x0FF0000F#32).wellFormed = false := by decide
theorem test_wellFormed_unknown_words :
    (Instr.unknown 0x00002063#32).wellFormed = true ∧ (Instr.unknown 0x00003003#32).wellFormed = true ∧
    (Instr.unknown 0x00003023#32).wellFormed = true ∧ (Instr.unknown 0x30200073#32).wellFormed = true ∧
    (Instr.unknown 0xFFFFFFFF#32).wellFormed = true := by decide

/-! Decoding: a word of every constructor, its fields written out from the layouts of R71 and the columns of R82 (the words are
those of the vectors V1 to V8 and V22). -/

theorem test_decode_lui :
    decodeWord (0b00010010001101000101#20 ++ 0b00101#5 ++ 0b0110111#7) = .lui 5#5 0x12345#20 := by decide
theorem test_decode_auipc :
    decodeWord (0b11111111111111111111#20 ++ 0b00101#5 ++ 0b0010111#7) = .auipc 5#5 0xFFFFF#20 := by decide
theorem test_decode_jal :
    decodeWord (0b1#1 ++ 0b1111111100#10 ++ 0b1#1 ++ 0b11111111#8 ++ 0b00000#5 ++ 0b1101111#7) = .jal 0#5 (BitVec.ofInt 21 (-8)) := by decide
theorem test_decode_jalr :
    decodeWord (0b111111111100#12 ++ 0b00001#5 ++ 0b000#3 ++ 0b00000#5 ++ 0b1100111#7) = .jalr 0#5 1#5 (BitVec.ofInt 12 (-4)) := by decide
theorem test_decode_beq :
    decodeWord (0b1#1 ++ 0b111111#6 ++ 0b00110#5 ++ 0b00101#5 ++ 0b000#3 ++ 0b1000#4 ++ 0b1#1 ++ 0b1100011#7) = .beq 5#5 6#5 (BitVec.ofInt 13 (-16)) := by decide
theorem test_decode_bne :
    decodeWord (0b0#1 ++ 0b000000#6 ++ 0b00110#5 ++ 0b00101#5 ++ 0b001#3 ++ 0b1000#4 ++ 0b0#1 ++ 0b1100011#7) = .bne 5#5 6#5 16#13 := by decide
theorem test_decode_blt :
    decodeWord (0b0#1 ++ 0b000000#6 ++ 0b00110#5 ++ 0b00101#5 ++ 0b100#3 ++ 0b1000#4 ++ 0b0#1 ++ 0b1100011#7) = .blt 5#5 6#5 16#13 := by decide
theorem test_decode_bge :
    decodeWord (0b0#1 ++ 0b000000#6 ++ 0b00110#5 ++ 0b00101#5 ++ 0b101#3 ++ 0b1000#4 ++ 0b0#1 ++ 0b1100011#7) = .bge 5#5 6#5 16#13 := by decide
theorem test_decode_bltu :
    decodeWord (0b0#1 ++ 0b000000#6 ++ 0b00110#5 ++ 0b00101#5 ++ 0b110#3 ++ 0b1000#4 ++ 0b0#1 ++ 0b1100011#7) = .bltu 5#5 6#5 16#13 := by decide
theorem test_decode_bgeu :
    decodeWord (0b0#1 ++ 0b000000#6 ++ 0b00110#5 ++ 0b00101#5 ++ 0b111#3 ++ 0b1000#4 ++ 0b0#1 ++ 0b1100011#7) = .bgeu 5#5 6#5 16#13 := by decide
theorem test_decode_lb :
    decodeWord (0b000000000100#12 ++ 0b00101#5 ++ 0b000#3 ++ 0b00110#5 ++ 0b0000011#7) = .lb 6#5 5#5 4#12 := by decide
theorem test_decode_lh :
    decodeWord (0b000000000010#12 ++ 0b00101#5 ++ 0b001#3 ++ 0b00110#5 ++ 0b0000011#7) = .lh 6#5 5#5 2#12 := by decide
theorem test_decode_lw :
    decodeWord (0b111111111100#12 ++ 0b00101#5 ++ 0b010#3 ++ 0b00110#5 ++ 0b0000011#7) = .lw 6#5 5#5 (BitVec.ofInt 12 (-4)) := by decide
theorem test_decode_lbu :
    decodeWord (0b000000000000#12 ++ 0b00101#5 ++ 0b100#3 ++ 0b00110#5 ++ 0b0000011#7) = .lbu 6#5 5#5 0#12 := by decide
theorem test_decode_lhu :
    decodeWord (0b000000000011#12 ++ 0b00101#5 ++ 0b101#3 ++ 0b00110#5 ++ 0b0000011#7) = .lhu 6#5 5#5 3#12 := by decide
theorem test_decode_sb :
    decodeWord (0b0000000#7 ++ 0b00110#5 ++ 0b00101#5 ++ 0b000#3 ++ 0b00001#5 ++ 0b0100011#7) = .sb 5#5 6#5 1#12 := by decide
theorem test_decode_sh :
    decodeWord (0b0000000#7 ++ 0b00110#5 ++ 0b00101#5 ++ 0b001#3 ++ 0b00001#5 ++ 0b0100011#7) = .sh 5#5 6#5 1#12 := by decide
theorem test_decode_sw :
    decodeWord (0b1111111#7 ++ 0b00110#5 ++ 0b00101#5 ++ 0b010#3 ++ 0b11100#5 ++ 0b0100011#7) = .sw 5#5 6#5 (BitVec.ofInt 12 (-4)) := by decide
theorem test_decode_addi :
    decodeWord (0b111111111111#12 ++ 0b00101#5 ++ 0b000#3 ++ 0b00110#5 ++ 0b0010011#7) = .addi 6#5 5#5 (BitVec.ofInt 12 (-1)) := by decide
theorem test_decode_slti :
    decodeWord (0b111111111111#12 ++ 0b00101#5 ++ 0b010#3 ++ 0b00110#5 ++ 0b0010011#7) = .slti 6#5 5#5 (BitVec.ofInt 12 (-1)) := by decide
theorem test_decode_sltiu :
    decodeWord (0b000000000001#12 ++ 0b00101#5 ++ 0b011#3 ++ 0b00110#5 ++ 0b0010011#7) = .sltiu 6#5 5#5 1#12 := by decide
theorem test_decode_xori :
    decodeWord (0b111111111111#12 ++ 0b00101#5 ++ 0b100#3 ++ 0b00110#5 ++ 0b0010011#7) = .xori 6#5 5#5 (BitVec.ofInt 12 (-1)) := by decide
theorem test_decode_ori :
    decodeWord (0b011100000000#12 ++ 0b00101#5 ++ 0b110#3 ++ 0b00110#5 ++ 0b0010011#7) = .ori 6#5 5#5 0x700#12 := by decide
theorem test_decode_andi :
    decodeWord (0b111111110000#12 ++ 0b00101#5 ++ 0b111#3 ++ 0b00110#5 ++ 0b0010011#7) = .andi 6#5 5#5 (BitVec.ofInt 12 (-16)) := by decide
theorem test_decode_slli :
    decodeWord (0b0000000#7 ++ 0b11111#5 ++ 0b00101#5 ++ 0b001#3 ++ 0b00110#5 ++ 0b0010011#7) = .slli 6#5 5#5 31#5 := by decide
theorem test_decode_srli :
    decodeWord (0b0000000#7 ++ 0b00100#5 ++ 0b00101#5 ++ 0b101#3 ++ 0b00110#5 ++ 0b0010011#7) = .srli 6#5 5#5 4#5 := by decide
theorem test_decode_srai :
    decodeWord (0b0100000#7 ++ 0b11111#5 ++ 0b00101#5 ++ 0b101#3 ++ 0b00110#5 ++ 0b0010011#7) = .srai 6#5 5#5 31#5 := by decide
theorem test_decode_add :
    decodeWord (0b0000000#7 ++ 0b00110#5 ++ 0b00101#5 ++ 0b000#3 ++ 0b00111#5 ++ 0b0110011#7) = .add 7#5 5#5 6#5 := by decide
theorem test_decode_sub :
    decodeWord (0b0100000#7 ++ 0b00110#5 ++ 0b00101#5 ++ 0b000#3 ++ 0b00111#5 ++ 0b0110011#7) = .sub 7#5 5#5 6#5 := by decide
theorem test_decode_sll :
    decodeWord (0b0000000#7 ++ 0b00110#5 ++ 0b00101#5 ++ 0b001#3 ++ 0b00111#5 ++ 0b0110011#7) = .sll 7#5 5#5 6#5 := by decide
theorem test_decode_slt :
    decodeWord (0b0000000#7 ++ 0b00110#5 ++ 0b00101#5 ++ 0b010#3 ++ 0b00111#5 ++ 0b0110011#7) = .slt 7#5 5#5 6#5 := by decide
theorem test_decode_sltu :
    decodeWord (0b0000000#7 ++ 0b00110#5 ++ 0b00101#5 ++ 0b011#3 ++ 0b00111#5 ++ 0b0110011#7) = .sltu 7#5 5#5 6#5 := by decide
theorem test_decode_xor :
    decodeWord (0b0000000#7 ++ 0b00110#5 ++ 0b00101#5 ++ 0b100#3 ++ 0b00111#5 ++ 0b0110011#7) = .xor 7#5 5#5 6#5 := by decide
theorem test_decode_srl :
    decodeWord (0b0000000#7 ++ 0b00110#5 ++ 0b00101#5 ++ 0b101#3 ++ 0b00111#5 ++ 0b0110011#7) = .srl 7#5 5#5 6#5 := by decide
theorem test_decode_sra :
    decodeWord (0b0100000#7 ++ 0b00110#5 ++ 0b00101#5 ++ 0b101#3 ++ 0b00111#5 ++ 0b0110011#7) = .sra 7#5 5#5 6#5 := by decide
theorem test_decode_or :
    decodeWord (0b0000000#7 ++ 0b00110#5 ++ 0b00101#5 ++ 0b110#3 ++ 0b00111#5 ++ 0b0110011#7) = .or 7#5 5#5 6#5 := by decide
theorem test_decode_and :
    decodeWord (0b0000000#7 ++ 0b00110#5 ++ 0b00101#5 ++ 0b111#3 ++ 0b00111#5 ++ 0b0110011#7) = .and 7#5 5#5 6#5 := by decide
theorem test_decode_mul :
    decodeWord (0b0000001#7 ++ 0b00110#5 ++ 0b00101#5 ++ 0b000#3 ++ 0b00111#5 ++ 0b0110011#7) = .mul 7#5 5#5 6#5 := by decide
theorem test_decode_mulh :
    decodeWord (0b0000001#7 ++ 0b00110#5 ++ 0b00101#5 ++ 0b001#3 ++ 0b00111#5 ++ 0b0110011#7) = .mulh 7#5 5#5 6#5 := by decide
theorem test_decode_mulhsu :
    decodeWord (0b0000001#7 ++ 0b00110#5 ++ 0b00101#5 ++ 0b010#3 ++ 0b00111#5 ++ 0b0110011#7) = .mulhsu 7#5 5#5 6#5 := by decide
theorem test_decode_mulhu :
    decodeWord (0b0000001#7 ++ 0b00110#5 ++ 0b00101#5 ++ 0b011#3 ++ 0b00111#5 ++ 0b0110011#7) = .mulhu 7#5 5#5 6#5 := by decide
theorem test_decode_div :
    decodeWord (0b0000001#7 ++ 0b00110#5 ++ 0b00101#5 ++ 0b100#3 ++ 0b00111#5 ++ 0b0110011#7) = .div 7#5 5#5 6#5 := by decide
theorem test_decode_divu :
    decodeWord (0b0000001#7 ++ 0b00110#5 ++ 0b00101#5 ++ 0b101#3 ++ 0b00111#5 ++ 0b0110011#7) = .divu 7#5 5#5 6#5 := by decide
theorem test_decode_rem :
    decodeWord (0b0000001#7 ++ 0b00110#5 ++ 0b00101#5 ++ 0b110#3 ++ 0b00111#5 ++ 0b0110011#7) = .rem 7#5 5#5 6#5 := by decide
theorem test_decode_remu :
    decodeWord (0b0000001#7 ++ 0b00110#5 ++ 0b00101#5 ++ 0b111#3 ++ 0b00111#5 ++ 0b0110011#7) = .remu 7#5 5#5 6#5 := by decide
theorem test_decode_ecall :
    decodeWord (0b000000000000#12 ++ 0b00000#5 ++ 0b000#3 ++ 0b00000#5 ++ 0b1110011#7) = .ecall := by decide
theorem test_decode_ebreak :
    decodeWord (0b000000000001#12 ++ 0b00000#5 ++ 0b000#3 ++ 0b00000#5 ++ 0b1110011#7) = .ebreak := by decide
theorem test_decode_fence :
    decodeWord (0b0000111111110000000000000#25 ++ 0b0001111#7) = .fence 0x01FE000#25 := by decide
theorem test_decode_unknown :
    decodeWord (0b0000000000000000001000000#25 ++ 0b1100011#7) = .unknown 0x00002063#32 := by decide

/-- V20.3, V20.4, V20.9 and V20.12: the record's raw fields, immediate and control bits. -/
theorem test_record_bne : decodeRecord 0xFE0318E3#32 0#32 =
    { raw := 0xFE0318E3#32, pc := 0#32, kind := .bne, format := .b, rd := 17#5, rs1 := 6#5, rs2 := 0#5, imm := 0xFFFFFFF0#32
      aluOp := .none, regWrite := false, memRead := false, memWrite := false, memToReg := false, branch := true, jump := false
      aluSrc := false } := by decide
theorem test_record_jal : decodeRecord 0xFE9FF0EF#32 8#32 =
    { raw := 0xFE9FF0EF#32, pc := 8#32, kind := .jal, format := .j, rd := 1#5, rs1 := 31#5, rs2 := 9#5, imm := 0xFFFFFFE8#32
      aluOp := .none, regWrite := true, memRead := false, memWrite := false, memToReg := false, branch := false, jump := true
      aluSrc := false } := by decide
theorem test_record_lw : decodeRecord 0x0002AE03#32 0#32 =
    { raw := 0x0002AE03#32, pc := 0#32, kind := .lw, format := .i, rd := 28#5, rs1 := 5#5, rs2 := 0#5, imm := 0#32
      aluOp := .add, regWrite := true, memRead := true, memWrite := false, memToReg := true, branch := false, jump := false
      aluSrc := true } := by decide
theorem test_record_ebreak : (decodeRecord 0x00100073#32 0#32).imm = 1#32 ∧ (decodeRecord 0x00100073#32 0#32).format = .i ∧
    (decodeRecord 0x00100073#32 0#32).regWrite = false := by decide

/-- V21: the words the lenient decoder accepts. -/
theorem test_decode_lenient :
    (decodeWord 0x02005013#32).kind = .srli ∧ (decodeWord 0x7E005013#32).kind = .srai ∧
    (decodeWord 0x04000033#32).kind = .add ∧ (decodeWord 0xFE000033#32).kind = .sub ∧
    (decodeWord 0x40001033#32).kind = .sll ∧ (decodeWord 0x00002067#32).kind = .jalr ∧
    (decodeWord 0x000110F3#32).kind = .ecall ∧ (decodeWord 0x001110F3#32).kind = .ebreak := by decide

/-- V22: the words that decode to UNKNOWN. -/
theorem test_decode_bubbles :
    [0x0FF0000F#32, 0x0000100F#32, 0x30200073#32, 0x10500073#32, 0x00000000#32, 0xFFFFFFFF#32, 0x00002063#32, 0x00003003#32,
      0x00003023#32, 0x00000001#32, 0x0000A001#32].all (fun w => (decodeWord w).kind == .unknown) = true := by decide

/-- R41, R70: the byte decoder reads little-endian and gives the rest; fewer than four bytes give no instruction. -/
theorem test_decode_bytes_little_endian :
    decodeBytes [0x13#8, 0x83#8, 0xF2#8, 0xFF#8, 0xAA#8] = .ok (.addi 6#5 5#5 (BitVec.ofInt 12 (-1)), [0xAA#8]) := by rfl
theorem test_decode_bytes_truncated : decodeBytes [0x13#8, 0x83#8, 0xF2#8] = .error (.truncated 3) := by rfl
theorem test_decode_table_word : decodeTableWord 32 0xFFF28313 = some (.addi 6#5 5#5 (BitVec.ofInt 12 (-1))) := by decide
theorem test_decode_table_word_too_long : decodeTableWord 40 0x13 = none := by decide

/-! One instruction by the reference step (V1 to V9): a state of the single-cycle engine with `x5`, `x6`, `pc` and memory as the
vector gives them and every other register 0. -/

/-- The "before" state of the vectors of part 2. -/
def before (pc x5 x6 : Word) (mem : Memory := []) : State :=
  { State.reset with
    engine := .singleCycle, pc := pc, mem := mem
    regs := ((Vector.replicate 32 0#32).set 5 x5).set 6 x6 }

/-- The state after executing a word. -/
def after (w : Word) (s : State) : State :=
  match exec (decodeWord w) s with
  | .next t => t
  | .fault _ | .refused _ => s

/-- A register and `pc` after executing a word. -/
def regPc (r : RegIdx) (w : Word) (s : State) : Word × Word := (readReg (after w s) r, (after w s).pc)

/-- Bytes of memory and `pc` after executing a word. -/
def bytesPc (as : List Address) (w : Word) (s : State) : List Byte × Word :=
  (as.map (after w s).mem.readByte, (after w s).pc)

/-- V1.1 -/
theorem test_lui : regPc 5#5 0x123452B7#32 (before 0x0#32 0x0#32 0x0#32) = (0x12345000#32, 0x4#32) := by decide
/-- V1.3 -/
theorem test_auipc : regPc 5#5 0x00001297#32 (before 0x100#32 0x0#32 0x0#32) = (0x1100#32, 0x104#32) := by decide
/-- V1.4 -/
theorem test_auipc_wraps : regPc 5#5 0xFFFFF297#32 (before 0x100#32 0x0#32 0x0#32) = (0xFFFFF100#32, 0x104#32) := by decide
/-- V2.1 -/
theorem test_jal : regPc 1#5 0x010000EF#32 (before 0x100#32 0x0#32 0x0#32) = (0x104#32, 0x110#32) := by decide
/-- V2.8 -/
theorem test_jal_wraps : regPc 1#5 0x008000EF#32 (before 0xFFFFFFFC#32 0x0#32 0x0#32) = (0x0#32, 0x4#32) := by decide
/-- V2.3 -/
theorem test_jalr_clears_bit0 : regPc 1#5 0x003280E7#32 (before 0x100#32 0x2000#32 0x0#32) = (0x104#32, 0x2002#32) := by decide
/-- V2.4 -/
theorem test_jalr_rd_is_rs1 : regPc 5#5 0x000282E7#32 (before 0x100#32 0x2000#32 0x0#32) = (0x104#32, 0x2000#32) := by decide
/-- V3.1 -/
theorem test_beq_taken : regPc 5#5 0x00628863#32 (before 0x100#32 0x5#32 0x5#32) = (0x5#32, 0x110#32) := by decide
/-- V3.12 -/
theorem test_beq_backwards : regPc 5#5 0xFE6288E3#32 (before 0x100#32 0x1#32 0x1#32) = (0x1#32, 0xF0#32) := by decide
/-- V3.3 -/
theorem test_bne_taken : regPc 5#5 0x00629863#32 (before 0x100#32 0x5#32 0x6#32) = (0x5#32, 0x110#32) := by decide
/-- V3.4 -/
theorem test_blt_taken : regPc 5#5 0x0062C863#32 (before 0x100#32 0xFFFFFFFF#32 0x1#32) = (0xFFFFFFFF#32, 0x110#32) := by decide
/-- V3.5 -/
theorem test_blt_not_taken : regPc 5#5 0x0062C863#32 (before 0x100#32 0x1#32 0xFFFFFFFF#32) = (0x1#32, 0x104#32) := by decide
/-- V3.6 -/
theorem test_bge_equal : regPc 5#5 0x0062D863#32 (before 0x100#32 0xFFFFFFFF#32 0xFFFFFFFF#32) = (0xFFFFFFFF#32, 0x110#32) := by decide
/-- V3.7 -/
theorem test_bge_not_taken : regPc 5#5 0x0062D863#32 (before 0x100#32 0xFFFFFFFE#32 0xFFFFFFFF#32) = (0xFFFFFFFE#32, 0x104#32) := by decide
/-- V3.8 -/
theorem test_bltu_not_taken : regPc 5#5 0x0062E863#32 (before 0x100#32 0xFFFFFFFF#32 0x1#32) = (0xFFFFFFFF#32, 0x104#32) := by decide
/-- V3.9 -/
theorem test_bltu_taken : regPc 5#5 0x0062E863#32 (before 0x100#32 0x1#32 0xFFFFFFFF#32) = (0x1#32, 0x110#32) := by decide
/-- V3.10 -/
theorem test_bgeu_taken : regPc 5#5 0x0062F863#32 (before 0x100#32 0xFFFFFFFF#32 0x1#32) = (0xFFFFFFFF#32, 0x110#32) := by decide
/-- V3.11 -/
theorem test_bgeu_equal : regPc 5#5 0x0062F863#32 (before 0x100#32 0x0#32 0x0#32) = (0x0#32, 0x110#32) := by decide

/-- The memory of V4. -/
def loadBytes : Memory :=
  [(0x10000000, 0x80#8), (0x10000001, 0xFF#8), (0x10000002, 0x34#8), (0x10000003, 0x12#8), (0x10000004, 0x7F#8)]

/-- V4.1 -/
theorem test_lb : regPc 6#5 0x00028303#32 (before 0x0#32 0x10000000#32 0x0#32 loadBytes) = (0xFFFFFF80#32, 0x4#32) := by decide
/-- V4.3 -/
theorem test_lb_positive : regPc 6#5 0x00428303#32 (before 0x0#32 0x10000000#32 0x0#32 loadBytes) = (0x7F#32, 0x4#32) := by decide
/-- V4.2 -/
theorem test_lbu : regPc 6#5 0x0002C303#32 (before 0x0#32 0x10000000#32 0x0#32 loadBytes) = (0x80#32, 0x4#32) := by decide
/-- V4.4 -/
theorem test_lh : regPc 6#5 0x00029303#32 (before 0x0#32 0x10000000#32 0x0#32 loadBytes) = (0xFFFFFF80#32, 0x4#32) := by decide
/-- V4.5 -/
theorem test_lhu : regPc 6#5 0x0002D303#32 (before 0x0#32 0x10000000#32 0x0#32 loadBytes) = (0xFF80#32, 0x4#32) := by decide
/-- V4.9 -/
theorem test_lhu_misaligned : regPc 6#5 0x0032D303#32 (before 0x0#32 0x10000000#32 0x0#32 loadBytes) = (0x7F12#32, 0x4#32) := by decide
/-- V4.8 -/
theorem test_lw_misaligned : regPc 6#5 0x0012A303#32 (before 0x0#32 0x10000000#32 0x0#32 loadBytes) = (0x7F1234FF#32, 0x4#32) := by decide
/-- V4.12 -/
theorem test_lw_wraps : regPc 6#5 0xFFE02303#32 (before 0x100#32 0x0#32 0x0#32 [(0, 0x33#8), (1, 0x44#8), (0xFFFFFFFE, 0x11#8), (0xFFFFFFFF, 0x22#8)]) = (0x44332211#32, 0x104#32) := by decide

/-- V5.1: the byte stored and the two beside it. -/
theorem test_sb : bytesPc [0x10000000#32, 0x10000001#32, 0x10000002#32] 0x006280A3#32 (before 0#32 0x10000000#32 0xA1B2C3D4#32) =
    ([0#8, 0xD4#8, 0#8], 4#32) := by decide
/-- V5.2 -/
theorem test_sh_misaligned : bytesPc [0x10000000#32, 0x10000001#32, 0x10000002#32, 0x10000003#32] 0x006290A3#32
    (before 0#32 0x10000000#32 0xA1B2C3D4#32) = ([0#8, 0xD4#8, 0xC3#8, 0#8], 4#32) := by decide
/-- V5.3 -/
theorem test_sw_misaligned : (after 0x0062A0A3#32 (before 0#32 0x10000000#32 0xA1B2C3D4#32)).mem =
    [(0x10000001, 0xD4#8), (0x10000002, 0xC3#8), (0x10000003, 0xB2#8), (0x10000004, 0xA1#8)] := by decide
/-- V5.5: the zero bytes of a stored word leave the memory in canonical form. -/
theorem test_sw_rs1_is_rs2 : (after 0x0052A023#32 (before 0#32 0x10000000#32 0#32)).mem = [(0x10000003, 0x10#8)] := by decide

/-- V6.2 -/
theorem test_addi_wraps : regPc 6#5 0x7FF28313#32 (before 0x0#32 0x7FFFFFFF#32 0x0#32) = (0x800007FE#32, 0x4#32) := by decide
/-- V6.3 -/
theorem test_slti : regPc 6#5 0xFFF2A313#32 (before 0x0#32 0xFFFFFFFE#32 0x0#32) = (0x1#32, 0x4#32) := by decide
/-- V6.4 -/
theorem test_slti_equal : regPc 6#5 0x0012A313#32 (before 0x0#32 0x1#32 0x0#32) = (0x0#32, 0x4#32) := by decide
/-- V6.5 -/
theorem test_sltiu : regPc 6#5 0xFFF2B313#32 (before 0x0#32 0x5#32 0x0#32) = (0x1#32, 0x4#32) := by decide
/-- V6.6 -/
theorem test_sltiu_seqz : regPc 6#5 0x0012B313#32 (before 0x0#32 0x0#32 0x0#32) = (0x1#32, 0x4#32) := by decide
/-- V6.7 -/
theorem test_xori : regPc 6#5 0xFFF2C313#32 (before 0x0#32 0xF0F0F0F#32 0x0#32) = (0xF0F0F0F0#32, 0x4#32) := by decide
/-- V6.8 -/
theorem test_ori : regPc 6#5 0x7002E313#32 (before 0x0#32 0xF#32 0x0#32) = (0x70F#32, 0x4#32) := by decide
/-- V6.9 -/
theorem test_andi : regPc 6#5 0xFF02F313#32 (before 0x0#32 0x12345678#32 0x0#32) = (0x12345670#32, 0x4#32) := by decide
/-- V6.10 -/
theorem test_slli : regPc 6#5 0x01F29313#32 (before 0x0#32 0x3#32 0x0#32) = (0x80000000#32, 0x4#32) := by decide
/-- V6.12 -/
theorem test_srli : regPc 6#5 0x0042D313#32 (before 0x0#32 0x80000000#32 0x0#32) = (0x8000000#32, 0x4#32) := by decide
/-- V6.13 -/
theorem test_srai : regPc 6#5 0x4042D313#32 (before 0x0#32 0x80000000#32 0x0#32) = (0xF8000000#32, 0x4#32) := by decide
/-- V6.14 -/
theorem test_srai_positive : regPc 6#5 0x41F2D313#32 (before 0x0#32 0x7FFFFFFF#32 0x0#32) = (0x0#32, 0x4#32) := by decide
/-- V7.1 -/
theorem test_add_wraps : regPc 7#5 0x006283B3#32 (before 0x0#32 0xFFFFFFFF#32 0x1#32) = (0x0#32, 0x4#32) := by decide
/-- V7.3 -/
theorem test_sub : regPc 7#5 0x406283B3#32 (before 0x0#32 0x0#32 0x1#32) = (0xFFFFFFFF#32, 0x4#32) := by decide
/-- V7.4 -/
theorem test_sub_min : regPc 7#5 0x406283B3#32 (before 0x0#32 0x80000000#32 0x1#32) = (0x7FFFFFFF#32, 0x4#32) := by decide
/-- V7.5 -/
theorem test_sll_masks : regPc 7#5 0x006293B3#32 (before 0x0#32 0x1#32 0x24#32) = (0x10#32, 0x4#32) := by decide
/-- V7.6 -/
theorem test_slt : regPc 7#5 0x0062A3B3#32 (before 0x0#32 0x80000000#32 0x7FFFFFFF#32) = (0x1#32, 0x4#32) := by decide
/-- V7.7 -/
theorem test_sltu : regPc 7#5 0x0062B3B3#32 (before 0x0#32 0x80000000#32 0x7FFFFFFF#32) = (0x0#32, 0x4#32) := by decide
/-- V7.8 -/
theorem test_xor : regPc 7#5 0x0062C3B3#32 (before 0x0#32 0xFF00FF00#32 0xFF00FF0#32) = (0xF0F0F0F0#32, 0x4#32) := by decide
/-- V7.9 -/
theorem test_srl_masks : regPc 7#5 0x0062D3B3#32 (before 0x0#32 0xF0000000#32 0xFFFFFFE4#32) = (0xF000000#32, 0x4#32) := by decide
/-- V7.10 -/
theorem test_sra_masks : regPc 7#5 0x4062D3B3#32 (before 0x0#32 0xF0000000#32 0xFFFFFFE4#32) = (0xFF000000#32, 0x4#32) := by decide
/-- V7.11 -/
theorem test_or : regPc 7#5 0x0062E3B3#32 (before 0x0#32 0xFF00FF00#32 0xFF00FF0#32) = (0xFFF0FFF0#32, 0x4#32) := by decide
/-- V7.12 -/
theorem test_and : regPc 7#5 0x0062F3B3#32 (before 0x0#32 0xFF00FF00#32 0xFF00FF0#32) = (0xF000F00#32, 0x4#32) := by decide
/-- V8.2 -/
theorem test_mul : regPc 7#5 0x026283B3#32 (before 0x0#32 0xFFFFFFFD#32 0x7#32) = (0xFFFFFFEB#32, 0x4#32) := by decide
/-- V8.3 -/
theorem test_mul_min : regPc 7#5 0x026283B3#32 (before 0x0#32 0x80000000#32 0xFFFFFFFF#32) = (0x80000000#32, 0x4#32) := by decide
/-- V8.4 -/
theorem test_mulh : regPc 7#5 0x026293B3#32 (before 0x0#32 0xFFFFFFFD#32 0x7#32) = (0xFFFFFFFF#32, 0x4#32) := by decide
/-- V8.5 -/
theorem test_mulh_min : regPc 7#5 0x026293B3#32 (before 0x0#32 0x80000000#32 0x80000000#32) = (0x40000000#32, 0x4#32) := by decide
/-- V8.8 -/
theorem test_mulhsu : regPc 7#5 0x0262A3B3#32 (before 0x0#32 0x80000000#32 0xFFFFFFFF#32) = (0x80000000#32, 0x4#32) := by decide
/-- V8.9 -/
theorem test_mulhsu_one : regPc 7#5 0x0262A3B3#32 (before 0x0#32 0x1#32 0xFFFFFFFF#32) = (0x0#32, 0x4#32) := by decide
/-- V8.10 -/
theorem test_mulhu : regPc 7#5 0x0262B3B3#32 (before 0x0#32 0xFFFFFFFF#32 0xFFFFFFFF#32) = (0xFFFFFFFE#32, 0x4#32) := by decide
/-- V8.12 -/
theorem test_div : regPc 7#5 0x0262C3B3#32 (before 0x0#32 0xFFFFFFF9#32 0x2#32) = (0xFFFFFFFD#32, 0x4#32) := by decide
/-- V8.15 -/
theorem test_div_overflow : regPc 7#5 0x0262C3B3#32 (before 0x0#32 0x80000000#32 0xFFFFFFFF#32) = (0x80000000#32, 0x4#32) := by decide
/-- V8.18 -/
theorem test_divu : regPc 7#5 0x0262D3B3#32 (before 0x0#32 0xFFFFFFF9#32 0x2#32) = (0x7FFFFFFC#32, 0x4#32) := by decide
/-- V8.19 -/
theorem test_divu_zero : regPc 7#5 0x0262D3B3#32 (before 0x0#32 0x5#32 0x0#32) = (0xFFFFFFFF#32, 0x4#32) := by decide
/-- V8.22 -/
theorem test_rem : regPc 7#5 0x0262E3B3#32 (before 0x0#32 0x7#32 0xFFFFFFFE#32) = (0x1#32, 0x4#32) := by decide
/-- V8.25 -/
theorem test_rem_zero : regPc 7#5 0x0262E3B3#32 (before 0x0#32 0xFFFFFFFB#32 0x0#32) = (0xFFFFFFFB#32, 0x4#32) := by decide
/-- V8.26 -/
theorem test_remu : regPc 7#5 0x0262F3B3#32 (before 0x0#32 0xFFFFFFF9#32 0x2#32) = (0x1#32, 0x4#32) := by decide
/-- V8.27 -/
theorem test_remu_zero : regPc 7#5 0x0262F3B3#32 (before 0x0#32 0x5#32 0x0#32) = (0x5#32, 0x4#32) := by decide

/-- R121: ECALL halts with `pc` at the ECALL, and both counters count it. -/
theorem test_ecall : (after 0x00000073#32 (before 0x100#32 7#32 0#32)).halted = true ∧
    (after 0x00000073#32 (before 0x100#32 7#32 0#32)).pc = 0x100#32 ∧
    (after 0x00000073#32 (before 0x100#32 7#32 0#32)).instructions = 1 := by decide
/-- R231 -/
theorem test_ebreak : regPc 5#5 0x00100073#32 (before 0x100#32 7#32 0#32) = (7#32, 0x104#32) := by decide
/-- R234, V22 -/
theorem test_fence : regPc 5#5 0x0FF0000F#32 (before 0x100#32 7#32 0#32) = (7#32, 0x104#32) := by decide
/-- R233, V22 -/
theorem test_unknown : regPc 5#5 0x00000000#32 (before 0x100#32 7#32 0#32) = (7#32, 0x104#32) := by decide
/-- V9.1: a write to `x0` is discarded. -/
theorem test_x0_write : regPc 0#5 0x00128013#32 (before 0x100#32 7#32 0#32) = (0#32, 0x104#32) := by decide
/-- The register and `pc` after a step that runs a word placed where the step fetches. -/
def stepPlaced (r : RegIdx) (w : Nat) : Word × Word :=
  match step (State.reset.withFetchWord 32 w) with
  | .next t => (readReg t r, t.pc)
  | .fault _ | .refused _ => (0#32, 0#32)

theorem test_placed_lui_runs : stepPlaced 5#5 0x123452B7 = (0x12345000#32, 4#32) := by decide
theorem test_placed_ebreak_runs : stepPlaced 5#5 0x00100073 = (0#32, 4#32) := by decide

/-! One tick of the pipeline. -/

/-- Four words in flight: `x` in MEM/WB (address 0), `e` in EX/MEM (4), `d` in ID/EX (8), `f` in IF/ID (12); the words of `d` and
`f` stand in memory; `x1` is 1, `x2` is 2, and so on; the latches MEM/WB and EX/MEM hold the ALU results given. -/
def inFlight (x : Word) (xResult : Word) (e : Word) (eResult eStore : Word) (d f : Word) : State :=
  let s : State := { State.reset with
    regs := Vector.ofFn (fun i : Fin 32 => BitVec.ofNat 32 i.val)
    mem := (Memory.writeWord [] 8#32 d).writeWord 12#32 f
    cycles := 4 }
  let i := decodeRecord d 8#32
  { s with
    pc := 16#32, nextPc := 20#32
    ifId := { raw := f, pc := 12#32, pc4 := 16#32, valid := true }
    idEx := { ins := i, rs1Val := readReg s i.rs1, rs2Val := readReg s i.rs2, pc := 8#32, pc4 := 12#32, valid := true }
    exMem := { ins := decodeRecord e 4#32, aluResult := eResult, rs2Val := eStore, branchTarget := 0#32, branchTaken := false, valid := true }
    memWb := { ins := decodeRecord x 0#32, aluResult := xResult, memData := 0#32, valid := true } }

/-- `addi x5, x0, 1` has 1 in MEM/WB, `addi x6, x0, -1` has FFFFFFFF in EX/MEM, `add x7, x5, x6` is in ID/EX, `nop` in IF/ID. -/
def forwarding : State :=
  inFlight 0x00100293#32 1#32 0xFFF00313#32 0xFFFFFFFF#32 0#32 0x006283B3#32 0x00000013#32

/-- R281, R295, decision D2: both operands forwarded, one from each latch. -/
theorem test_tick_forwards_both : (tick forwarding).exMem.aluResult = 0#32 ∧ (tick forwarding).forwards = 2 := by decide
/-- R312: with forwarding off the latched operands 5 and 6 are added. -/
theorem test_tick_without_forwarding :
    (tick (setForwarding false forwarding)).exMem.aluResult = 11#32 ∧ (tick (setForwarding false forwarding)).forwards = 0 := by decide
/-- R293: WB writes the MEM/WB result; R292: one cycle. -/
theorem test_tick_writes_back : readReg (tick forwarding) 5#5 = 1#32 ∧ readReg (tick forwarding) 6#5 = 6#32 ∧
    (tick forwarding).cycles = 5 := by decide

/-- `nop` in MEM/WB, `lui x5, 0x10000` in EX/MEM, `lw x28, 0(x5)` in ID/EX, `addi x29, x28, 1` in IF/ID: tick 4 of S4. -/
def loadUse : State :=
  inFlight 0x00000013#32 0#32 0x100002B7#32 0x10000000#32 0#32 0x0002AE03#32 0x001E0E93#32

/-- S4, tick 4: the stall, the bubble in ID/EX, the held IF/ID and `pc`, and the forwarded address. -/
theorem test_tick_load_use_stalls : (tick loadUse).stalled = true ∧ (tick loadUse).stalls = 1 ∧
    (tick loadUse).idEx.valid = false ∧ (tick loadUse).ifId.raw = 0x001E0E93#32 ∧ (tick loadUse).pc = 16#32 ∧
    (tick loadUse).exMem.aluResult = 0x10000000#32 := by decide
/-- R280: with hazard detection off nothing stalls. -/
theorem test_tick_without_hazard_detection :
    (tick (setHazardDetection false loadUse)).stalls = 0 ∧ (tick (setHazardDetection false loadUse)).idEx.valid = true := by decide

/-- `sw x6, 1(x5)` in EX/MEM with its address and data, `beq x0, x0, 16` in ID/EX. -/
def redirecting : State :=
  inFlight 0x00000013#32 0#32 0x0062A0A3#32 0x10000001#32 0xA1B2C3D4#32 0x00000863#32 0x00500093#32

/-- R296, R298: the target is fetched in the same tick, ID/EX is empty, `flushes` rises by 2; R294: the store. -/
theorem test_tick_redirects : (tick redirecting).ifId.pc = 24#32 ∧ (tick redirecting).pc = 28#32 ∧
    (tick redirecting).idEx.valid = false ∧ (tick redirecting).flushes = 2 ∧
    (tick redirecting).mem.readWord 0x10000001#32 = 0xA1B2C3D4#32 ∧ (tick redirecting).instructions = 1 := by decide

/-- `ecall` in MEM/WB. -/
def halting : State :=
  inFlight 0x00000073#32 0#32 0x00000013#32 0#32 0#32 0x00000013#32 0x00000013#32

/-- R293: WB of an ECALL halts; the tick returns HALTED (R290). -/
theorem test_tick_ecall_halts : (tick halting).halted = true ∧ tickStatus halting = .halted ∧ (tick halting).cycles = 5 := by decide
/-- R256: PAUSED comes before HALTED. -/
theorem test_status_paused_first : tickStatus (setBreakpoints [20#32] halting) = .paused := by decide

/-! Witnesses: for every obligation with hypotheses, a concrete state and operands that meet all of them together. -/

/-- The invariant and the flow of the states in flight, proved field by field. -/
theorem inv_forwarding : Inv forwarding where
  memWf := by decide
  x0Stored := by decide
  ifIdOk := ⟨by decide, by decide⟩
  idExOk := ⟨by decide, by decide⟩
  exMemOk := ⟨by decide, by decide⟩
  memWbOk := ⟨by decide, by decide⟩
  nextPcFollows := by decide
  fetchedBehind := by decide
  flushesEven := by decide
  conservation := by decide

theorem inv_loadUse : Inv loadUse where
  memWf := by decide
  x0Stored := by decide
  ifIdOk := ⟨by decide, by decide⟩
  idExOk := ⟨by decide, by decide⟩
  exMemOk := ⟨by decide, by decide⟩
  memWbOk := ⟨by decide, by decide⟩
  nextPcFollows := by decide
  fetchedBehind := by decide
  flushesEven := by decide
  conservation := by decide

theorem inv_redirecting : Inv redirecting where
  memWf := by decide
  x0Stored := by decide
  ifIdOk := ⟨by decide, by decide⟩
  idExOk := ⟨by decide, by decide⟩
  exMemOk := ⟨by decide, by decide⟩
  memWbOk := ⟨by decide, by decide⟩
  nextPcFollows := by decide
  fetchedBehind := by decide
  flushesEven := by decide
  conservation := by decide

theorem inv_reset : Inv State.reset where
  memWf := State.reset_mem_wf
  x0Stored := by decide
  ifIdOk := ⟨by decide, by decide⟩
  idExOk := ⟨by decide, by decide⟩
  exMemOk := ⟨by decide, by decide⟩
  memWbOk := ⟨by decide, by decide⟩
  nextPcFollows := by decide
  fetchedBehind := by decide
  flushesEven := by decide
  conservation := by decide

theorem flow_forwarding : Flow forwarding where
  nextPcFollows := by decide
  pcFollows := by decide
  idExFollows := by decide
  operand1 := by decide
  operand2 := by decide

theorem flow_loadUse : Flow loadUse where
  nextPcFollows := by decide
  pcFollows := by decide
  idExFollows := by decide
  operand1 := by decide
  operand2 := by decide

theorem flow_reset : Flow State.reset where
  nextPcFollows := by decide
  pcFollows := by decide
  idExFollows := by decide
  operand1 := by decide
  operand2 := by decide

/-- The reset state of the single-cycle engine. -/
def resetSingle : State := { State.reset with engine := .singleCycle }

/-- A machine that has halted. -/
def halted : State := halt State.reset

theorem witness_DecodeInvertsEncode :
    (Instr.beq 31#5 31#5 4094#13).wellFormed = true ∧ (Instr.jal 31#5 1048574#21).wellFormed = true ∧
    (Instr.unknown 0xFFFFFFFF#32).wellFormed = true := by decide
theorem witness_CanonicalWordsReencode :
    isCanonical 0x4042D313#32 = true ∧ (decodeWord 0x7E005013#32).kind ≠ .unknown ∧ isCanonical 0x7E005013#32 = false := by decide
theorem witness_DecodedRecordInvariants :
    (decodeRecord 0xFE0318E3#32 0#32).branch = true ∧ (decodeRecord 0xFE9FF0EF#32 0#32).kind = .jal ∧
    (decodeRecord 0x100002B7#32 0#32).kind = .lui ∧ (decodeRecord 0x00001297#32 0#32).kind = .auipc ∧
    (decodeRecord 0x01F29313#32 0#32).kind = .slli ∧ (decodeRecord 0x0042D313#32 0#32).kind = .srli ∧
    (decodeRecord 0x41F2D313#32 0#32).kind = .srai := by decide
/-- A destination that is another register, one that is `x0`, and none. -/
theorem witness_RegisterFrame :
    (∃ t, exec (.addi 6#5 5#5 1#12) State.reset = .next t) ∧ destOf (.addi 6#5 5#5 1#12) ≠ some 5#5 ∧
    (∃ t, exec (.addi 0#5 5#5 1#12) State.reset = .next t) ∧ destOf (.addi 0#5 5#5 1#12) = some 0#5 ∧
    (∃ t, exec (.sw 5#5 6#5 1#12) State.reset = .next t) ∧ destOf (.sw 5#5 6#5 1#12) ≠ some 0#5 :=
  ⟨⟨_, rfl⟩, by decide, ⟨_, rfl⟩, by decide, ⟨_, rfl⟩, by decide⟩
/-- A form that stores nothing, and one that stores four bytes from an address on: the byte before them and the byte after. -/
theorem witness_MemoryFrame :
    (∃ t, exec (.lw 6#5 5#5 0#12) State.reset = .next t) ∧ storeOf (.lw 6#5 5#5 0#12) State.reset = none ∧
    (∃ t, exec (.sw 0#5 6#5 8#12) State.reset = .next t) ∧ storeOf (.sw 0#5 6#5 8#12) State.reset = some (8#32, 4) ∧
    ¬ inBytes 8#32 4 7#32 ∧ ¬ inBytes 8#32 4 12#32 ∧ inBytes 8#32 4 11#32 := by
  refine ⟨⟨_, rfl⟩, by decide, ⟨_, rfl⟩, by decide, ?_, ?_, ⟨3, by decide, by decide⟩⟩ <;>
  · rintro ⟨k, hk, h⟩
    have : k = 0 ∨ k = 1 ∨ k = 2 ∨ k = 3 := by omega
    rcases this with rfl | rfl | rfl | rfl <;> exact absurd h (by decide)
theorem witness_MachineStateFrame :
    (∃ t, exec (.lw 6#5 5#5 0#12) State.reset = .next t) ∧ (Instr.lw 6#5 5#5 0#12) ≠ .ecall ∧
    (Instr.lw 6#5 5#5 0#12).kind.isStore = false ∧ (Instr.sw 5#5 6#5 0#12).kind.isLoad = false ∧
    (∃ t, exec (.sw 5#5 6#5 0#12) State.reset = .next t) := ⟨⟨_, rfl⟩, by decide, by decide, by decide, ⟨_, rfl⟩⟩
theorem witness_MemWriteTouchesItsBytesOnly :
    ¬ inBytes 0xFFFFFFFF#32 1 0#32 ∧ inBytes 0xFFFFFFFF#32 2 0#32 := by
  refine ⟨?_, 1, by decide, by decide⟩
  rintro ⟨k, hk, h⟩
  have : k = 0 := by omega
  subst this
  exact absurd h (by decide)
theorem witness_ShiftsUseLowFiveBits : AluOp.sra = .sll ∨ AluOp.sra = .srl ∨ AluOp.sra = .sra := by decide
theorem witness_DivisionIdentity :
    (0xFFFFFFFF#32 : Word) ≠ 0#32 ∧ ¬ ((0x80000001#32 : Word) = 0x80000000#32 ∧ (0xFFFFFFFF#32 : Word) = 0xFFFFFFFF#32) := by decide
theorem witness_DivisionSigns :
    (2#32 : Word) ≠ 0#32 ∧ ¬ ((0xFFFFFFF9#32 : Word) = 0x80000000#32 ∧ (2#32 : Word) = 0xFFFFFFFF#32) := by decide
theorem witness_StepRunsDecodedInstruction :
    resetSingle.engine = .singleCycle ∧ resetSingle.halted = false ∧
    decodeBytes [resetSingle.mem.readByte resetSingle.pc, resetSingle.mem.readByte (resetSingle.pc + 1#32),
      resetSingle.mem.readByte (resetSingle.pc + 2#32), resetSingle.mem.readByte (resetSingle.pc + 3#32)]
      = .ok (.unknown 0#32, []) := ⟨rfl, rfl, rfl⟩
theorem witness_HaltedMachineStays : halted.halted = true := by decide
/-- Ticks of a running pipeline: the hypotheses of StatusPriority, TickCountsOneCycle, WritebackTick and
SwitchedOffFeaturesDoNothing (both inputs off). -/
theorem witness_tick :
    forwarding.engine = .pipeline ∧ forwarding.halted = false ∧ (∃ t, step forwarding = .next t) ∧
    forwarding.memWb.valid = true ∧ forwarding.memWb.ins.regWrite = true ∧ forwarding.idEx.valid = true :=
  ⟨rfl, rfl, ⟨_, rfl⟩, by decide, by decide, by decide⟩
theorem witness_SwitchedOffFeaturesDoNothing :
    (setForwarding false (setHazardDetection false forwarding)).engine = .pipeline ∧
    (setForwarding false (setHazardDetection false forwarding)).halted = false ∧
    (∃ t, step (setForwarding false (setHazardDetection false forwarding)) = .next t) ∧
    (setForwarding false (setHazardDetection false forwarding)).hazardDetection = false ∧
    (setForwarding false (setHazardDetection false forwarding)).forwarding = false ∧
    (setForwarding false (setHazardDetection false forwarding)).idEx.valid = true :=
  ⟨rfl, rfl, ⟨_, rfl⟩, rfl, rfl, by decide⟩
theorem witness_SingleCycleCountsEveryStep :
    resetSingle.engine = .singleCycle ∧ resetSingle.halted = false ∧ ∃ t, step resetSingle = .next t := ⟨rfl, rfl, _, rfl⟩
/-- Both clauses: an empty EX/MEM and a full one. -/
theorem witness_MemoryTick :
    State.reset.engine = .pipeline ∧ State.reset.halted = false ∧ Inv State.reset ∧ (∃ t, step State.reset = .next t) ∧
    State.reset.exMem.valid = false ∧
    redirecting.engine = .pipeline ∧ redirecting.halted = false ∧ Inv redirecting ∧ (∃ t, step redirecting = .next t) ∧
    redirecting.exMem.valid = true ∧ redirecting.exMem.ins.memWrite = true :=
  ⟨rfl, rfl, inv_reset, ⟨_, rfl⟩, by decide, rfl, rfl, inv_redirecting, ⟨_, rfl⟩, by decide, by decide⟩
/-- Both clauses: an empty ID/EX and a full one. -/
theorem witness_ExecuteTick :
    State.reset.engine = .pipeline ∧ State.reset.halted = false ∧ (∃ t, step State.reset = .next t) ∧
    State.reset.idEx.valid = false ∧
    redirecting.engine = .pipeline ∧ redirecting.halted = false ∧ (∃ t, step redirecting = .next t ∧ t.exMem.branchTaken = true) ∧
    redirecting.idEx.valid = true :=
  ⟨rfl, rfl, ⟨_, rfl⟩, by decide, rfl, rfl, ⟨_, rfl, by decide⟩, by decide⟩
theorem witness_RedirectTick :
    Inv redirecting ∧ redirecting.engine = .pipeline ∧ redirecting.halted = false ∧
    ∃ t, step redirecting = .next t ∧ t.exMem.branchTaken = true :=
  ⟨inv_redirecting, rfl, rfl, _, rfl, by decide⟩
/-- Both clauses: an empty IF/ID and a full one. -/
theorem witness_FlowingTick :
    (Inv State.reset ∧ State.reset.engine = .pipeline ∧ State.reset.halted = false ∧ State.reset.ifId.valid = false ∧
      ∃ t, step State.reset = .next t ∧ t.stalled = false ∧ t.exMem.branchTaken = false) ∧
    (Inv forwarding ∧ forwarding.engine = .pipeline ∧ forwarding.halted = false ∧ forwarding.ifId.valid = true ∧
      ∃ t, step forwarding = .next t ∧ t.stalled = false ∧ t.exMem.branchTaken = false) :=
  ⟨⟨inv_reset, rfl, rfl, by decide, _, rfl, by decide, by decide⟩,
   ⟨inv_forwarding, rfl, rfl, by decide, _, rfl, by decide, by decide⟩⟩
theorem witness_StalledTick :
    Inv loadUse ∧ loadUse.engine = .pipeline ∧ loadUse.halted = false ∧ loadUse.hazardDetection = true ∧
    detectLoadUse loadUse.idEx (decodeRecord loadUse.ifId.raw loadUse.ifId.pc) = true ∧ ∃ t, step loadUse = .next t :=
  ⟨inv_loadUse, rfl, rfl, rfl, by decide, _, rfl⟩
/-- Both engines take a step: the hypothesis of ConfigurationIsNeverWritten, BreakpointsDoNotTouchState and
SingleCycleIgnoresTheToggles. -/
theorem witness_step_both_engines :
    (∃ t, step State.reset = .next t) ∧ resetSingle.engine = .singleCycle ∧ (∃ t, step resetSingle = .next t) :=
  ⟨⟨_, rfl⟩, rfl, _, rfl⟩

/-- A launch with one text word and one data byte: the hypotheses of both clauses of ResetPlacesTheImage, with the addresses
beside the two images. -/
def smallImage : LaunchParams := { textImage := [0x00000073#32], dataImage := [0x29#8] }

theorem witness_ResetPlacesTheImage :
    4 * smallImage.textImage.length ≤ 0x10000000 ∧ smallImage.dataImage.length ≤ 0xF0000000 ∧
    0 < smallImage.textImage.length ∧ 0 < smallImage.dataImage.length ∧
    4 * smallImage.textImage.length ≤ (4#32).toNat ∧ (0x0FFFFFFF#32).toNat < 0x10000000 ∧
    0x10000000 + smallImage.dataImage.length ≤ (0x10000001#32).toNat ∧
    State.reset.hazardDetection = resetSingle.hazardDetection ∧ State.reset.forwarding = resetSingle.forwarding ∧
    State.reset.breakpoints = resetSingle.breakpoints ∧ State.reset.engine = State.reset.engine := by decide
theorem witness_StepKeepsTheInvariant : Inv redirecting ∧ ∃ t, step redirecting = .next t := ⟨inv_redirecting, _, rfl⟩
theorem witness_TickKeepsTheFlow :
    loadUse.engine = .pipeline ∧ loadUse.halted = false ∧ Inv loadUse ∧ Flow loadUse ∧ (∃ t, step loadUse = .next t) ∧
    loadUse.hazardDetection = true := ⟨rfl, rfl, inv_loadUse, flow_loadUse, ⟨_, rfl⟩, rfl⟩
/-- An empty pipeline with a word at `pc`. -/
def emptyPipeline (w : Word) : State := { State.reset with mem := Memory.writeWord [] 0#32 w }

theorem flow_emptyPipeline (w : Word) : Flow (emptyPipeline w) :=
  ⟨rfl, fun h => absurd h Bool.false_ne_true, fun h => absurd h Bool.false_ne_true, fun h => absurd h Bool.false_ne_true,
   fun h => absurd h Bool.false_ne_true⟩

/-- `addi x6, x5, -1` (V6.1), which writes a register; `sw x6, 1(x5)` (V5.3) and `ecall` reach the same premises. -/
theorem witness_EmptyPipelineRunsOneInstruction :
    (emptyPipeline 0xFFF28313#32).engine = .pipeline ∧ (emptyPipeline 0xFFF28313#32).halted = false ∧
    Flow (emptyPipeline 0xFFF28313#32) ∧ (emptyPipeline 0xFFF28313#32).ifId = flushedIfId ∧
    (emptyPipeline 0xFFF28313#32).idEx = flushedIdEx ∧ (emptyPipeline 0xFFF28313#32).exMem = flushedExMem ∧
    (emptyPipeline 0xFFF28313#32).memWb = flushedMemWb ∧
    decodeWord ((emptyPipeline 0xFFF28313#32).mem.readWord (emptyPipeline 0xFFF28313#32).pc) = .addi 6#5 5#5 (BitVec.ofInt 12 (-1)) ∧
    (∃ t, exec (decodeWord ((emptyPipeline 0xFFF28313#32).mem.readWord (emptyPipeline 0xFFF28313#32).pc))
      (emptyPipeline 0xFFF28313#32) = .next t ∧ readReg t 6#5 = 0xFFFFFFFF#32) ∧
    (∃ t, exec (decodeWord ((emptyPipeline 0x0062A0A3#32).mem.readWord (emptyPipeline 0x0062A0A3#32).pc))
      (emptyPipeline 0x0062A0A3#32) = .next t) ∧
    (∃ t, exec (decodeWord ((emptyPipeline 0x00000073#32).mem.readWord (emptyPipeline 0x00000073#32).pc))
      (emptyPipeline 0x00000073#32) = .next t ∧ t.halted = true) :=
  ⟨rfl, rfl, flow_emptyPipeline _, rfl, rfl, rfl, rfl, by decide, ⟨_, rfl, by decide⟩, ⟨_, rfl⟩, ⟨_, rfl, by decide⟩⟩

/-- The single-cycle engine that stands where `s` stands. -/
def reference (s : State) : State :=
  { resetSingle with regs := (drained s).regs, mem := (drained s).mem, pc := nextToExecute s }

theorem inStep_reference (s : State) : InStep s (reference s) := ⟨rfl, rfl, rfl, rfl, rfl⟩

theorem loadUseSafe_forwarding : LoadUseSafe forwarding := by
  intro _ _ h
  exact absurd h (by decide)

/-- Both clauses: an instruction in ID/EX and none. -/
theorem witness_TickCommitsReferenceStep :
    (Inv forwarding ∧ Flow forwarding ∧ LoadUseSafe forwarding ∧ NoEcallPastEx forwarding ∧ forwarding.engine = .pipeline ∧
      forwarding.halted = false ∧ forwarding.forwarding = true ∧ FetchCoherent forwarding ∧
      (forwarding.idEx.valid = true → forwarding.idEx.ins.kind ≠ .ecall) ∧ InStep forwarding (reference forwarding) ∧
      forwarding.idEx.valid = true) ∧
    (Inv State.reset ∧ Flow State.reset ∧ LoadUseSafe State.reset ∧ NoEcallPastEx State.reset ∧ State.reset.engine = .pipeline ∧
      State.reset.halted = false ∧ State.reset.forwarding = true ∧ FetchCoherent State.reset ∧
      (State.reset.idEx.valid = true → State.reset.idEx.ins.kind ≠ .ecall) ∧ InStep State.reset (reference State.reset) ∧
      State.reset.idEx.valid = false) :=
  ⟨⟨inv_forwarding, flow_forwarding, loadUseSafe_forwarding, ⟨by decide, by decide⟩, rfl, rfl, rfl, fun _ => by decide,
      by decide, inStep_reference _, by decide⟩,
   ⟨inv_reset, flow_reset, fun h => absurd h (by decide), ⟨by decide, by decide⟩, rfl, rfl, rfl, fun h => absurd h (by decide),
      by decide, inStep_reference _, by decide⟩⟩
theorem witness_PipelineRefinesReferenceRun :
    Inv forwarding ∧ Flow forwarding ∧ LoadUseSafe forwarding ∧ NoEcallPastEx forwarding ∧ forwarding.engine = .pipeline ∧
    forwarding.halted = false ∧ forwarding.hazardDetection = true ∧ forwarding.forwarding = true ∧
    CoherentFor 2 forwarding ∧ InStep forwarding (reference forwarding) :=
  ⟨inv_forwarding, flow_forwarding, loadUseSafe_forwarding, ⟨by decide, by decide⟩, rfl, rfl, rfl, rfl,
   ⟨fun _ => by decide, by decide, fun _ => by decide, by decide, trivial⟩, inStep_reference _⟩

/-- `ecall` in ID/EX, a store behind it in IF/ID, NOPs in front. -/
def ecallThenStore : State :=
  inFlight 0x00000013#32 0#32 0x00000013#32 0#32 0#32 0x00000073#32 0x0062A0A3#32

/-- `ecall` in ID/EX, a NOP behind it in IF/ID, NOPs in front. -/
def ecallThenNop : State :=
  inFlight 0x00000013#32 0#32 0x00000013#32 0#32 0#32 0x00000073#32 0x00000013#32

theorem inv_ecallThenStore : Inv ecallThenStore where
  memWf := by decide
  x0Stored := by decide
  ifIdOk := ⟨by decide, by decide⟩
  idExOk := ⟨by decide, by decide⟩
  exMemOk := ⟨by decide, by decide⟩
  memWbOk := ⟨by decide, by decide⟩
  nextPcFollows := by decide
  fetchedBehind := by decide
  flushesEven := by decide
  conservation := by decide

theorem inv_ecallThenNop : Inv ecallThenNop where
  memWf := by decide
  x0Stored := by decide
  ifIdOk := ⟨by decide, by decide⟩
  idExOk := ⟨by decide, by decide⟩
  exMemOk := ⟨by decide, by decide⟩
  memWbOk := ⟨by decide, by decide⟩
  nextPcFollows := by decide
  fetchedBehind := by decide
  flushesEven := by decide
  conservation := by decide

theorem flow_ecallThenStore : Flow ecallThenStore := ⟨by decide, by decide, by decide, by decide, by decide⟩

theorem flow_ecallThenNop : Flow ecallThenNop := ⟨by decide, by decide, by decide, by decide, by decide⟩

/-- A store at E + 4 (R314), and none; with the premises of the flow clause and of the clause on the reference engine. -/
theorem witness_EcallDrainsThePipeline :
    (Inv ecallThenStore ∧ NoEcallPastEx ecallThenStore ∧ ecallThenStore.engine = .pipeline ∧ ecallThenStore.halted = false ∧
      ecallThenStore.idEx.valid = true ∧ ecallThenStore.idEx.ins.kind = .ecall ∧
      (ticks 2 ecallThenStore).exMem.valid = true ∧ (ticks 2 ecallThenStore).exMem.ins.memWrite = true ∧
      Flow ecallThenStore ∧ FetchCoherent ecallThenStore ∧ InStep ecallThenStore (reference ecallThenStore)) ∧
    (Inv ecallThenNop ∧ NoEcallPastEx ecallThenNop ∧ ecallThenNop.engine = .pipeline ∧ ecallThenNop.halted = false ∧
      ecallThenNop.idEx.valid = true ∧ ecallThenNop.idEx.ins.kind = .ecall ∧
      ((ticks 2 ecallThenNop).exMem.valid = true → (ticks 2 ecallThenNop).exMem.ins.memWrite = false) ∧
      Flow ecallThenNop ∧ FetchCoherent ecallThenNop ∧ InStep ecallThenNop (reference ecallThenNop)) :=
  ⟨⟨inv_ecallThenStore, ⟨by decide, by decide⟩, rfl, rfl, by decide, by decide, by decide, by decide, flow_ecallThenStore,
      fun _ => by decide, inStep_reference _⟩,
   ⟨inv_ecallThenNop, ⟨by decide, by decide⟩, rfl, rfl, by decide, by decide, by decide, flow_ecallThenNop,
      fun _ => by decide, inStep_reference _⟩⟩

/-- R298, R299, log 4: a stalled tick fetches nothing, one that flows counts one fetch. -/
theorem test_tick_counts_fetches : (tick loadUse).memReads = 0 ∧ (tick forwarding).memReads = fetchCount :=
  ⟨by decide, Nat.zero_add _⟩

end Sys2Proof.Tests
end

/-! What the meaning of an instruction can do to the state: the five shapes of `exec`, one lemma for every proof about it. -/

namespace Sys2Proof.Machine

open Sys2Proof.Safety

/-! Reading a register after an operation that writes none. -/

@[simp] theorem readReg_retireAt (a : Address) (s : State) (j : RegIdx) : readReg (retireAt a s) j = readReg s j := rfl
@[simp] theorem readReg_halt (s : State) (j : RegIdx) : readReg (halt s) j = readReg s j := rfl
@[simp] theorem readReg_countRead (n : Nat) (s : State) (j : RegIdx) : readReg (countRead n s) j = readReg s j := rfl
@[simp] theorem readReg_storeMem (k : Kind) (a : Address) (v : Word) (s : State) (j : RegIdx) :
    readReg (storeMem k a v s) j = readReg s j := rfl

/-- The states an instruction can lead to, with what each says of the instruction: a result in the destination, a load, a
store, an advance that writes nothing, and the halt. -/
inductive ExecEffect (i : Instr) (s : State) : State → Prop
  | result (a : Address) (rd : RegIdx) (v : Word) (hd : destOf i = some rd) : ExecEffect i s (retireAt a (writeReg rd v s))
  | load (a : Address) (rd : RegIdx) (v : Word) (n : Nat) (hd : destOf i = some rd) (hl : i.kind.isLoad = true) :
      ExecEffect i s (retireAt a (writeReg rd v (countRead n s)))
  | store (a : Address) (k : Kind) (b : Address) (v : Word) (hs : i.kind.isStore = true) :
      ExecEffect i s (retireAt a (storeMem k b v s))
  | advance (a : Address) : ExecEffect i s (retireAt a s)
  | ecall (hi : i = .ecall) : ExecEffect i s (halt (retireAt s.pc s))

/-- Every instruction answers a next state, of one of the five shapes. -/
theorem exec_answers (i : Instr) (s : State) : ∃ t, exec i s = .next t ∧ ExecEffect i s t :=
  match i with
  | .lui .. | .auipc .. | .jal .. | .jalr .. => ⟨_, rfl, .result _ _ _ rfl⟩
  | .beq .. | .bne .. | .blt .. | .bge .. | .bltu .. | .bgeu .. => ⟨_, rfl, .advance _⟩
  | .lb .. | .lh .. | .lw .. | .lbu .. | .lhu .. => ⟨_, rfl, .load _ _ _ _ rfl rfl⟩
  | .sb .. | .sh .. | .sw .. => ⟨_, rfl, .store _ _ _ _ rfl⟩
  | .addi .. | .slti .. | .sltiu .. | .xori .. | .ori .. | .andi .. | .slli .. | .srli .. | .srai .. =>
    ⟨_, rfl, .result _ _ _ rfl⟩
  | .add .. | .sub .. | .sll .. | .slt .. | .sltu .. | .xor .. | .srl .. | .sra .. | .or .. | .and .. =>
    ⟨_, rfl, .result _ _ _ rfl⟩
  | .mul .. | .mulh .. | .mulhsu .. | .mulhu .. | .div .. | .divu .. | .rem .. | .remu .. => ⟨_, rfl, .result _ _ _ rfl⟩
  | .ecall => ⟨_, rfl, .ecall rfl⟩
  | .ebreak | .fence _ | .unknown _ => ⟨_, rfl, .advance _⟩

/-- The inversion of `exec`: whatever it answers has one of the five shapes. -/
theorem exec_effect {i : Instr} {s t : State} (h : exec i s = .next t) : ExecEffect i s t := by
  obtain ⟨u, hu, heff⟩ := exec_answers i s
  cases hu.symm.trans h
  exact heff

/-! The two frames of an instruction. -/

/-- Settles O20: a shape writes the destination through `writeReg`, or no register. -/
theorem registerFrame : Obligations.RegisterFrame := by
  intro i s t h
  refine ⟨fun j hj => ?_, readReg_zero t, fun h0 => ?_⟩
  · cases exec_effect h with
    | result _ rd v hd | load _ rd v _ hd =>
      have hne : j ≠ rd := fun e => hj (e ▸ hd)
      simp [readReg_writeReg_of_ne hne]
    | store | advance | ecall => simp
  · cases exec_effect h with
    | result _ rd v hd | load _ rd v _ hd =>
      have hrd : rd = 0#5 := by simpa [h0] using hd.symm
      simp [hrd]
    | store | advance | ecall => simp

/-- Settles O22: each of the five shapes updates the register file, the memory, `pc`, its own counters and, for ECALL alone,
`halted`. -/
theorem machineStateFrame : Obligations.MachineStateFrame := by
  intro i s t h
  cases exec_effect h with
  | result | advance => simp
  | load _ _ _ _ _ hl => simp [hl]
  | store _ _ _ _ hs => simp [hs]
  | ecall hi => simp [hi]

end Sys2Proof.Machine
/-! What a step can do, in either engine, and what it leaves of the configuration and of the register file. -/

namespace Sys2Proof.Machine

open Sys2Proof.Safety

/-- A halted machine stays as it is (R247). -/
theorem step_halted (s : State) (hh : s.halted = true) : step s = .next s := by
  cases he : s.engine with
  | pipeline => rw [step_pipeline s he, tick_halted s hh]
  | singleCycle => simp [step, singleStep, he, hh]

/-- The inversion of `step`: a halted machine stays (R247), a pipeline ticks (R290), and the single-cycle engine executes the
word at `pc` (R120). -/
theorem step_cases {s t : State} (h : step s = .next t) :
    (s.halted = true ∧ t = s) ∨
    (s.halted = false ∧ s.engine = .pipeline ∧ t = tick s) ∨
    (s.halted = false ∧ s.engine = .singleCycle ∧ exec (decodeWord (fetchWord s)) (countFetch s) = .next t) := by
  cases hh : s.halted with
  | true =>
    cases (step_halted s hh).symm.trans h
    exact .inl ⟨rfl, rfl⟩
  | false =>
    cases he : s.engine with
    | pipeline =>
      cases (step_pipeline s he).symm.trans h
      exact .inr (.inl ⟨rfl, rfl, rfl⟩)
    | singleCycle => exact .inr (.inr ⟨rfl, rfl, (step_singleCycle s he hh).symm.trans h⟩)

/-- The inversion of a step of the pipeline engine. -/
theorem eq_tick_of_step {s t : State} (he : s.engine = .pipeline) (h : step s = .next t) : t = tick s := by
  cases (step_pipeline s he).symm.trans h
  rfl

/-- The three shapes of a tick in one case split (R247, R290). -/
theorem tick_cases (s : State) :
    (s.halted = true ∧ tick s = s) ∨
    (s.halted = false ∧ tick s = { stallBubble (backEnd s) with cycles := s.cycles + 1 }) ∨
    (s.halted = false ∧ tick s = { ifStage (idStage (backEnd s)) with cycles := s.cycles + 1 }) := by
  cases hh : s.halted with
  | true => exact .inl ⟨rfl, tick_halted s hh⟩
  | false =>
    cases hs : stallNow s with
    | true => exact .inr (.inl ⟨rfl, tick_stalled s hh hs⟩)
    | false => exact .inr (.inr ⟨rfl, tick_flowing s hh hs⟩)

/-! The configuration. -/

/-- The four fields that the host sets and no rule of the machine writes (R17, R256, D25). -/
def SameConfiguration (s t : State) : Prop :=
  t.hazardDetection = s.hazardDetection ∧ t.forwarding = s.forwarding ∧ t.breakpoints = s.breakpoints ∧ t.engine = s.engine

theorem tick_sameConfiguration (s : State) : SameConfiguration s (tick s) := by
  unfold SameConfiguration
  rcases tick_cases s with ⟨_, h⟩ | ⟨_, h⟩ | ⟨_, h⟩ <;> simp [h]

theorem exec_sameConfiguration {i : Instr} {s t : State} (h : exec i s = .next t) : SameConfiguration s t := by
  obtain ⟨_, _, _, _, _, _, hhd, hfw, _, _, _, hbp, hen, _⟩ := machineStateFrame i s t h
  exact ⟨hhd, hfw, hbp, hen⟩

/-- Settles O47: a tick runs stages that leave the four fields, an instruction has the frame of MachineStateFrame. -/
theorem configurationIsNeverWritten : Obligations.ConfigurationIsNeverWritten := by
  intro s t h
  rcases step_cases h with ⟨_, rfl⟩ | ⟨_, _, rfl⟩ | ⟨_, _, hx⟩
  · exact ⟨rfl, rfl, rfl, rfl⟩
  · exact tick_sameConfiguration s
  · exact exec_sameConfiguration (s := countFetch s) hx

/-! The register file and the halt. -/

/-- The registers after the write-back of R119: the destination holds the value, where the instruction writes one. -/
theorem readReg_writeBack (i : Decoded) (v : Word) (s : State) (j : RegIdx) :
    readReg (writeBack i v s) j = if i.regWrite = true ∧ i.rd ≠ 0#5 ∧ j = i.rd then v else readReg s j := by
  unfold writeBack
  cases i.regWrite with
  | false => simp
  | true => simp [readReg_writeReg, and_comm]

/-- The registers after WB (R293). -/
theorem readReg_wbStage (m : MemWb) (s : State) (j : RegIdx) :
    readReg (wbStage m s) j =
      if m.valid = true ∧ m.ins.regWrite = true ∧ m.ins.rd ≠ 0#5 ∧ j = m.ins.rd
      then writeBackValue m.ins m.memData m.aluResult else readReg s j := by
  cases hv : m.valid with
  | false => simp [wbStage_invalid m s hv]
  | true => simp [readReg_of_regs (wbStage_valid m s hv).1, readReg_writeBack]

/-- WB halts the machine exactly on a valid ECALL (R293). -/
theorem wbStage_halted (m : MemWb) (s : State) (hs : s.halted = false) :
    (wbStage m s).halted = true ↔ m.valid = true ∧ m.ins.kind = .ecall := by
  cases hv : m.valid with
  | false => simp [wbStage_invalid m s hv, hs]
  | true => simp [(wbStage_valid m s hv).2, hs]

theorem backEnd_halted (s : State) : (backEnd s).halted = (wbStage s.memWb { s with stalled := stallNow s }).halted := by
  simp [backEnd]

/-- WB is the one stage of a tick that writes a register or `halted`. -/
theorem tick_regs_halted {s : State} (hs : s.halted = false) :
    (tick s).regs = (wbStage s.memWb { s with stalled := stallNow s }).regs ∧
    (tick s).halted = (wbStage s.memWb { s with stalled := stallNow s }).halted := by
  rcases tick_cases s with ⟨hh, _⟩ | ⟨_, h⟩ | ⟨_, h⟩
  · simp [hs] at hh
  · simp [h, backEnd_halted]
  · simp [h, backEnd_halted]

/-- Settles O40: the register file and `halted` after a tick are those after WB. -/
theorem writebackTick : Obligations.WritebackTick := by
  intro s t he hs h
  obtain rfl := eq_tick_of_step he h
  obtain ⟨hregs, hhalt⟩ := tick_regs_halted hs
  refine ⟨fun j => ?_, ?_⟩
  · rw [readReg_of_regs hregs, readReg_wbStage]
    rfl
  · rw [hhalt]
    exact wbStage_halted _ _ hs

end Sys2Proof.Machine
/-! The machine invariant: what each operation of an instruction and each stage of a tick keeps of it. -/

namespace Sys2Proof.Machine

open Sys2Proof.Safety

/-! The single-cycle engine: the operations an instruction is made of keep the invariant. -/

theorem inv_countFetch {s : State} (h : Inv s) : Inv (countFetch s) := { h with }

theorem inv_countRead {s : State} (h : Inv s) (n : Nat) : Inv (countRead n s) := { h with }

theorem inv_halt {s : State} (h : Inv s) : Inv (halt s) := { h with }

theorem inv_storeMem {s : State} (h : Inv s) (k : Kind) (a : Address) (v : Word) : Inv (storeMem k a v s) :=
  { h with memWf := Memory.wf_storeValue k h.memWf a v }

theorem inv_writeReg {s : State} (h : Inv s) (i : RegIdx) (v : Word) : Inv (writeReg i v s) := by
  have hx0 : (writeReg i v s).regs[0] = 0#32 := (writeReg_stored_zero i v s).trans h.x0Stored
  unfold writeReg at hx0 ⊢
  split at hx0
  · rwa [if_pos ‹_›]
  · rw [if_neg ‹_›]
    exact { h with x0Stored := hx0 }

theorem inv_retireAt {s : State} (h : Inv s) (he : s.engine = .singleCycle) (a : Address) : Inv (retireAt a s) :=
  { h with
    nextPcFollows := fun hp => absurd (he.symm.trans hp) (by decide)
    conservation := by have := h.conservation; simp only [retireAt]; omega }

/-- An instruction of the single-cycle engine keeps the invariant, whatever its shape. -/
theorem inv_exec {i : Instr} {s t : State} (h : Inv s) (he : s.engine = .singleCycle) (hx : exec i s = .next t) : Inv t := by
  cases exec_effect hx with
  | result a rd v => exact inv_retireAt (inv_writeReg h rd v) (by simpa) a
  | load a rd v n => exact inv_retireAt (inv_writeReg (inv_countRead h n) rd v) (by simpa) a
  | store a k b v => exact inv_retireAt (inv_storeMem h k b v) he a
  | advance a => exact inv_retireAt h he a
  | ecall => exact inv_halt (inv_retireAt h he s.pc)

/-! The latches. -/

@[simp] theorem occupied_true : occupied true = 1 := rfl

@[simp] theorem occupied_false : occupied false = 0 := rfl

theorem ifIdOk_flushed : IfIdOk flushedIfId := ⟨fun _ => rfl, fun h => absurd h (by decide)⟩

theorem idExOk_flushed : IdExOk flushedIdEx := ⟨fun _ => rfl, fun h => absurd h (by decide)⟩

theorem exMemOk_flushed : ExMemOk flushedExMem := ⟨fun _ => rfl, fun h => absurd h (by decide)⟩

theorem memWbOk_flushed : MemWbOk flushedMemWb := ⟨fun _ => rfl, fun h => absurd h (by decide)⟩

/-- Only a branch or a jump redirects (R117, R296). -/
theorem branch_or_jump_of_takenOf {w : Word} {p : Address} {A B : Word} (h : takenOf (decodeRecord w p) A B = true) :
    (decodeRecord w p).branch = true ∨ (decodeRecord w p).jump = true := by
  unfold takenOf at h
  split at h
  · rename_i hk
    refine .inr (?_ : (decodeRecord w p).kind.isJump = true)
    rcases hk with hk | hk <;> rw [hk] <;> rfl
  · exact .inl (Bool.and_eq_true_iff.1 h).1

/-- What EX latches from a decoded instruction is as EX/MEM should be. -/
theorem exMemOk_executed {d : IdEx} (hd : d.ins = decodeRecord d.ins.raw d.pc) (A B : Word) : ExMemOk (executed d A B) := by
  have hpc : d.ins.pc = d.pc := by rw [hd]; rfl
  refine ⟨fun h => absurd h (by simp [executed]), fun _ => ⟨?_, fun ht => ?_⟩⟩
  · simpa only [executed, hpc] using hd
  · simp only [executed] at ht ⊢
    rw [hd] at ht ⊢
    exact branch_or_jump_of_takenOf ht

/-- What MEM latches is as MEM/WB should be. -/
theorem memWbOk_memStage {e : ExMem} (he : ExMemOk e) (s : State) : MemWbOk (memStage e s).memWb := by
  rw [memStage_memWb]
  split
  · rename_i hv
    exact ⟨fun h => absurd h (by simp), fun _ => ⟨(he.2 hv).1, fun hr => by simp_all [memDataOf]⟩⟩
  · exact memWbOk_flushed

/-- What ID latches from a good IF/ID is as ID/EX should be. -/
theorem idExOk_idStage {s : State} (hf : IfIdOk s.ifId) : IdExOk (idStage s).idEx := by
  rw [idStage_idEx]
  split
  · rename_i hv
    exact ⟨fun h => absurd h (by simp), fun _ => ⟨rfl, hf.2 hv⟩⟩
  · exact idExOk_flushed

/-! The stages of a tick. -/

/-- What the invariant says of a pipeline apart from ID/EX and EX/MEM, with `n` instructions on their way to MEM: what every
stage keeps, each moving the count `n`. -/
structure StageInv (n : Nat) (s : State) : Prop where
  memWf : s.mem.wf
  x0Stored : s.regs[0] = 0#32
  ifIdOk : IfIdOk s.ifId
  memWbOk : MemWbOk s.memWb
  nextPcFollows : s.engine = .pipeline → s.nextPc = s.pc + 4#32
  flushesEven : s.flushes % 2 = 0
  conservation : s.instructions + s.stalls + s.flushes / 2 + n ≤ s.cycles

/-- The state a tick begins with. -/
theorem stageInv_of_inv {s : State} (h : Inv s) (b : Bool) :
    StageInv (occupied s.ifId.valid + occupied s.idEx.valid + occupied s.exMem.valid) { s with stalled := b } :=
  { h with conservation := by have := h.conservation; dsimp only; omega }

theorem wbStage_stored_zero (m : MemWb) (s : State) : (wbStage m s).regs[0] = s.regs[0] := by
  cases hv : m.valid with
  | false => rw [wbStage_invalid m s hv]
  | true =>
    simp only [(wbStage_valid m s hv).1]
    unfold writeBack
    split
    · exact writeReg_stored_zero _ _ _
    · rfl

theorem stageInv_wbStage {n : Nat} {s : State} (h : StageInv n s) (m : MemWb) : StageInv n (wbStage m s) where
  memWf := by simpa using h.memWf
  x0Stored := (wbStage_stored_zero m s).trans h.x0Stored
  ifIdOk := by simpa using h.ifIdOk
  memWbOk := by simpa using h.memWbOk
  nextPcFollows := by simpa using h.nextPcFollows
  flushesEven := by simpa using h.flushesEven
  conservation := by simpa using h.conservation

/-- MEM counts at most the one instruction of EX/MEM (R294). -/
theorem memStage_instructions_le (e : ExMem) (s : State) :
    (memStage e s).instructions ≤ s.instructions + occupied e.valid := by
  unfold memStage occupied
  split
  · dsimp only
    split <;> omega
  · exact Nat.le_refl _

theorem stageInv_memStage {n : Nat} {s : State} {e : ExMem} (h : StageInv (n + occupied e.valid) s) (he : ExMemOk e) :
    StageInv n (memStage e s) where
  memWf := by
    rw [memStage_mem]
    split
    · exact Memory.wf_storeValue _ h.memWf _ _
    · exact h.memWf
  x0Stored := by simpa using h.x0Stored
  ifIdOk := by simpa using h.ifIdOk
  memWbOk := memWbOk_memStage he s
  nextPcFollows := by simpa using h.nextPcFollows
  flushesEven := by simpa using h.flushesEven
  conservation := by
    have hc := h.conservation
    have hi := memStage_instructions_le e s
    simp only [memStage_stalls, memStage_flushes, memStage_cycles]
    omega

/-- The three things EX can do (R295, R296): pass a bubble on, execute and let the front go on, or execute and redirect. -/
theorem exStage_cases (d : IdEx) (e : ExMem) (m : MemWb) (s : State) :
    (d.valid = false ∧ exStage d e m s = { s with exMem := flushedExMem }) ∨
    (d.valid = true ∧ ∃ (A B : Word) (n : Nat), takenOf d.ins A B = false ∧
      exStage d e m s = { s with exMem := executed d A B, forwards := n }) ∨
    (d.valid = true ∧ ∃ (A B : Word) (n : Nat), takenOf d.ins A B = true ∧
      exStage d e m s = redirect (targetOf d.ins d.pc A B) { s with exMem := executed d A B, forwards := n }) := by
  cases hv : d.valid with
  | false => exact .inl ⟨rfl, exStage_invalid d e m s hv⟩
  | true =>
    refine .inr ?_
    cases hx : takenOf d.ins (forwardOperand s.forwarding d.ins.rs1 d.rs1Val e m).1
      (forwardOperand s.forwarding d.ins.rs2 d.rs2Val e m).1 with
    | false => exact .inl ⟨rfl, _, _, _, hx, exStage_sequential d e m s hv hx⟩
    | true => exact .inr ⟨rfl, _, _, _, hx, exStage_redirects d e m s hv hx⟩

/-- EX passes an instruction of ID/EX on to EX/MEM; a redirect trades the two instructions in IF/ID and ID/EX for one pair of
flushes, and needs both to be there. -/
theorem stageInv_exStage {s : State} {d : IdEx} (h : StageInv (occupied s.ifId.valid + occupied d.valid) s) (hd : IdExOk d)
    (hfetched : d.valid = true → s.ifId.valid = true) (e : ExMem) (m : MemWb) :
    StageInv (occupied (exStage d e m s).ifId.valid + occupied (exStage d e m s).exMem.valid) (exStage d e m s) ∧
    ExMemOk (exStage d e m s).exMem := by
  rcases exStage_cases d e m s with ⟨hv, hex⟩ | ⟨hv, A, B, n, -, hex⟩ | ⟨hv, A, B, n, -, hex⟩ <;> rw [hex]
  · rw [hv] at h
    exact ⟨{ h with }, exMemOk_flushed⟩
  · rw [hv] at h
    exact ⟨{ h with }, exMemOk_executed (hd.2 hv).1 A B⟩
  · rw [hv, hfetched hv] at h
    refine ⟨{ h with ifIdOk := ifIdOk_flushed, nextPcFollows := fun _ => rfl, flushesEven := ?_, conservation := ?_ },
      exMemOk_executed (hd.2 hv).1 A B⟩
    · have := h.flushesEven
      simp only [redirect]
      omega
    · have := h.conservation
      simp [executed, flushedIfId] at this ⊢
      omega

/-- WB, MEM and EX together. -/
theorem stageInv_backEnd {s : State} (h : Inv s) :
    StageInv (occupied (backEnd s).ifId.valid + occupied (backEnd s).exMem.valid) (backEnd s) ∧ ExMemOk (backEnd s).exMem := by
  have hmem := stageInv_memStage (stageInv_wbStage (stageInv_of_inv h (stallNow s)) s.memWb) h.exMemOk
  exact stageInv_exStage (by simpa using hmem) h.idExOk (by simpa using h.fetchedBehind) s.exMem s.memWb

/-! The two ends of a tick. -/

/-- A stalled tick counts its bubble (R299). -/
theorem inv_of_stall {s : State} (h : StageInv (occupied s.ifId.valid + occupied s.exMem.valid) s) (hx : ExMemOk s.exMem) :
    Inv { stallBubble s with cycles := s.cycles + 1 } :=
  { h with
    idExOk := idExOk_flushed
    exMemOk := hx
    fetchedBehind := fun hv => absurd hv Bool.false_ne_true
    conservation := by
      have := h.conservation
      simp [flushedIdEx]
      omega }

/-- A tick that does not stall decodes the instruction of IF/ID and fetches the one behind it (R297, R298). -/
theorem inv_of_flow {s : State} (h : StageInv (occupied s.ifId.valid + occupied s.exMem.valid) s) (hx : ExMemOk s.exMem) :
    Inv { ifStage (idStage s) with cycles := s.cycles + 1 } where
  memWf := by simpa using h.memWf
  x0Stored := by simpa using h.x0Stored
  ifIdOk := ⟨fun hv => absurd hv (by simp), fun _ => rfl⟩
  idExOk := idExOk_idStage h.ifIdOk
  exMemOk := by simpa using hx
  memWbOk := by simpa using h.memWbOk
  nextPcFollows := fun _ => by simp
  fetchedBehind := fun _ => by simp
  flushesEven := by simpa using h.flushesEven
  conservation := by
    have hd : (idStage s).idEx.valid = s.ifId.valid := by
      rw [idStage_idEx]
      cases s.ifId.valid <;> rfl
    have := h.conservation
    simp [hd]
    omega

/-- A tick keeps the invariant. -/
theorem inv_tick {s : State} (h : Inv s) : Inv (tick s) := by
  obtain ⟨hback, hex⟩ := stageInv_backEnd h
  rcases tick_cases s with ⟨_, ht⟩ | ⟨_, ht⟩ | ⟨_, ht⟩ <;> rw [ht]
  · exact h
  · simpa using inv_of_stall hback hex
  · simpa using inv_of_flow hback hex

/-- "`instructions ≤ cycles`" (R316), from the conservation of the invariant. -/
theorem instructions_le_cycles_of_inv {s : State} (h : Inv s) : s.instructions ≤ s.cycles := by
  have := h.conservation
  omega

/-- Settles O54: a tick keeps the invariant stage by stage, an instruction of the single-cycle engine shape by shape. -/
theorem stepKeepsTheInvariant : Obligations.StepKeepsTheInvariant := by
  intro s t h hstep
  have hinv : Inv t := by
    rcases step_cases hstep with ⟨_, rfl⟩ | ⟨_, _, rfl⟩ | ⟨_, he, hx⟩
    · exact h
    · exact inv_tick h
    · exact inv_exec (inv_countFetch h) he hx
  exact ⟨hinv, instructions_le_cycles_of_inv hinv⟩

end Sys2Proof.Machine
/-! Noninterference of the counters: each operation gives, from two states that differ in their counters alone, two states that
differ in their counters alone, and a composition of such operations does so too. -/

namespace Sys2Proof.Machine

open Sys2Proof.Safety

/-- What `f` gives, apart from the counters, is what it gives from the state with every counter at 0. -/
def IgnoresCounters (f : State → State) : Prop := ∀ s, withoutCounters (f s) = withoutCounters (f (withoutCounters s))

theorem IgnoresCounters.congr {f : State → State} (hf : IgnoresCounters f) {s t : State}
    (h : withoutCounters s = withoutCounters t) : withoutCounters (f s) = withoutCounters (f t) := by
  rw [hf s, hf t, h]

theorem IgnoresCounters.comp {f g : State → State} (hg : IgnoresCounters g) (hf : IgnoresCounters f) :
    IgnoresCounters (fun s => g (f s)) := fun s => hg.congr (hf s)

/-! The operations. -/

theorem ignoresCounters_countRead (n : Nat) : IgnoresCounters (countRead n) := fun _ => rfl

theorem ignoresCounters_countFetch : IgnoresCounters countFetch := fun _ => rfl

theorem ignoresCounters_retireAt (a : Address) : IgnoresCounters (retireAt a) := fun _ => rfl

theorem ignoresCounters_halt : IgnoresCounters halt := fun _ => rfl

theorem ignoresCounters_writeReg (i : RegIdx) (v : Word) : IgnoresCounters (writeReg i v) := by
  intro s
  unfold writeReg
  split <;> rfl

/-! The shapes of the instruction rules. Their operands are fields of the state that are no counters, so they are the same for
both states. -/

theorem ignoresCounters_writeResult (rd : RegIdx) (v : State → Word) (hv : ∀ s, v s = v (withoutCounters s)) :
    IgnoresCounters (fun s => writeResult rd (v s) s) := by
  intro s
  dsimp only
  rw [← hv s]
  exact ((ignoresCounters_retireAt _).comp (ignoresCounters_writeReg rd _)) s

theorem ignoresCounters_regImm (op : AluOp) (rd rs1 : RegIdx) (imm : Word) : IgnoresCounters (regImm op rd rs1 imm) :=
  ignoresCounters_writeResult rd (fun s => alu op (readReg s rs1) imm) fun _ => rfl

theorem ignoresCounters_regReg (op : AluOp) (rd rs1 rs2 : RegIdx) : IgnoresCounters (regReg op rd rs1 rs2) :=
  ignoresCounters_writeResult rd (fun s => alu op (readReg s rs1) (readReg s rs2)) fun _ => rfl

theorem ignoresCounters_loadInto (k : Kind) (rd rs1 : RegIdx) (imm : BitVec 12) : IgnoresCounters (loadInto k rd rs1 imm) :=
  fun s => (((ignoresCounters_retireAt (s.pc + 4#32)).comp
    (ignoresCounters_writeReg rd (loadValue k s.mem (effectiveAddress s rs1 imm)))).comp (ignoresCounters_countRead _)) s

theorem ignoresCounters_storeFrom (k : Kind) (rs1 rs2 : RegIdx) (imm : BitVec 12) :
    IgnoresCounters (storeFrom k rs1 rs2 imm) := fun _ => rfl

theorem ignoresCounters_branchOn (k : Kind) (rs1 rs2 : RegIdx) (off : BitVec 13) :
    IgnoresCounters (branchOn k rs1 rs2 off) := fun _ => rfl

theorem ignoresCounters_jumpTo (rd : RegIdx) (target : State → Address) (ht : ∀ s, target s = target (withoutCounters s)) :
    IgnoresCounters (fun s => jumpTo rd (target s) s) := by
  intro s
  dsimp only
  rw [← ht s]
  exact ((ignoresCounters_retireAt _).comp (ignoresCounters_writeReg rd (s.pc + 4#32))) s

theorem ignoresCounters_passBy : IgnoresCounters passBy := fun _ => rfl

theorem ignoresCounters_ecall : IgnoresCounters (fun s => halt (retireAt s.pc s)) := fun _ => rfl

/-- Every instruction is a function of the state that reads no counter. -/
theorem exec_ignoresCounters (i : Instr) : ∃ f, (∀ s, exec i s = .next (f s)) ∧ IgnoresCounters f :=
  match i with
  | .lui .. | .auipc .. => ⟨_, fun _ => rfl, ignoresCounters_writeResult _ _ fun _ => rfl⟩
  | .jal .. | .jalr .. => ⟨_, fun _ => rfl, ignoresCounters_jumpTo _ _ fun _ => rfl⟩
  | .beq .. | .bne .. | .blt .. | .bge .. | .bltu .. | .bgeu .. => ⟨_, fun _ => rfl, ignoresCounters_branchOn _ _ _ _⟩
  | .lb .. | .lh .. | .lw .. | .lbu .. | .lhu .. => ⟨_, fun _ => rfl, ignoresCounters_loadInto _ _ _ _⟩
  | .sb .. | .sh .. | .sw .. => ⟨_, fun _ => rfl, ignoresCounters_storeFrom _ _ _ _⟩
  | .addi .. | .slti .. | .sltiu .. | .xori .. | .ori .. | .andi .. | .slli .. | .srli .. | .srai .. =>
    ⟨_, fun _ => rfl, ignoresCounters_regImm _ _ _ _⟩
  | .add .. | .sub .. | .sll .. | .slt .. | .sltu .. | .xor .. | .srl .. | .sra .. | .or .. | .and .. =>
    ⟨_, fun _ => rfl, ignoresCounters_regReg _ _ _ _⟩
  | .mul .. | .mulh .. | .mulhsu .. | .mulhu .. | .div .. | .divu .. | .rem .. | .remu .. =>
    ⟨_, fun _ => rfl, ignoresCounters_regReg _ _ _ _⟩
  | .ecall => ⟨_, fun _ => rfl, ignoresCounters_ecall⟩
  | .ebreak | .fence _ | .unknown _ => ⟨_, fun _ => rfl, ignoresCounters_passBy⟩

/-! The stages. -/

theorem ignoresCounters_writeBack (i : Decoded) (v : Word) : IgnoresCounters (writeBack i v) := by
  intro s
  unfold writeBack
  split
  · exact ignoresCounters_writeReg i.rd v s
  · rfl

theorem ignoresCounters_wbStage (m : MemWb) : IgnoresCounters (wbStage m) := by
  have hwb := ignoresCounters_writeBack m.ins (writeBackValue m.ins m.memData m.aluResult)
  intro s
  unfold wbStage
  split
  · dsimp only
    split
    · exact (ignoresCounters_halt.comp hwb) s
    · exact hwb s
  · rfl

theorem ignoresCounters_memStage (e : ExMem) : IgnoresCounters (memStage e) := by
  intro s
  unfold memStage
  split
  · unfold accessMemory
    split
    · rfl
    · split <;> rfl
  · rfl

theorem ignoresCounters_exStage (d : IdEx) (e : ExMem) (m : MemWb) : IgnoresCounters (exStage d e m) := by
  intro s
  cases hv : d.valid with
  | false => rw [exStage_invalid d e m s hv, exStage_invalid d e m (withoutCounters s) hv]; rfl
  | true =>
    cases hx : takenOf d.ins (forwardOperand s.forwarding d.ins.rs1 d.rs1Val e m).1
      (forwardOperand s.forwarding d.ins.rs2 d.rs2Val e m).1 with
    | false => rw [exStage_sequential d e m s hv hx, exStage_sequential d e m (withoutCounters s) hv hx]; rfl
    | true => rw [exStage_redirects d e m s hv hx, exStage_redirects d e m (withoutCounters s) hv hx]; rfl

/-- ID writes ID/EX alone (R297). -/
theorem idStage_eq (s : State) : idStage s = { s with idEx := (idStage s).idEx } := by
  unfold idStage
  split <;> rfl

theorem ignoresCounters_idStage : IgnoresCounters idStage := by
  intro s
  rw [idStage_eq s, idStage_eq (withoutCounters s), idStage_idEx s, idStage_idEx (withoutCounters s)]
  rfl

theorem ignoresCounters_ifStage : IgnoresCounters ifStage := fun _ => rfl

theorem ignoresCounters_stallBubble : IgnoresCounters stallBubble := fun _ => rfl

theorem ignoresCounters_backEnd : IgnoresCounters backEnd := fun s =>
  ((ignoresCounters_exStage s.idEx s.exMem s.memWb).comp
    ((ignoresCounters_memStage s.exMem).comp (ignoresCounters_wbStage s.memWb))) { s with stalled := stallNow s }

theorem ignoresCounters_tick : IgnoresCounters tick := by
  intro s
  cases hh : s.halted with
  | true => rw [tick_halted s hh, tick_halted (withoutCounters s) hh]; rfl
  | false =>
    cases hs : stallNow s with
    | true =>
      rw [tick_stalled s hh hs, tick_stalled (withoutCounters s) hh hs]
      exact (ignoresCounters_stallBubble.comp ignoresCounters_backEnd) s
    | false =>
      rw [tick_flowing s hh hs, tick_flowing (withoutCounters s) hh hs]
      exact (ignoresCounters_ifStage.comp (ignoresCounters_idStage.comp ignoresCounters_backEnd)) s

/-- Settles O48: a tick is a composition of stages, a single-cycle step a fetch and an instruction, and each ignores the
counters. -/
theorem countersAreNeverRead : Obligations.CountersAreNeverRead := by
  intro s
  cases he : s.engine with
  | pipeline => exact ⟨_, _, step_pipeline s he, step_pipeline (withoutCounters s) he, ignoresCounters_tick s⟩
  | singleCycle =>
    cases hh : s.halted with
    | true => exact ⟨s, withoutCounters s, step_halted s hh, step_halted (withoutCounters s) hh, rfl⟩
    | false =>
      obtain ⟨f, hf, hign⟩ := exec_ignoresCounters (decodeWord (fetchWord s))
      exact ⟨_, _, (step_singleCycle s he hh).trans (hf _), (step_singleCycle (withoutCounters s) he hh).trans (hf _),
        (hign.comp ignoresCounters_countFetch) s⟩

end Sys2Proof.Machine
/-! The decoded record: the decoder gives well-formed instructions, and what that says of the immediates. -/

namespace Sys2Proof

open Sys2Proof.Machine

/-! The decoder gives well-formed instructions. -/

@[simp] theorem evenOffset13_immBOf (w : Word) : evenOffset13 (immBOf w) = true := by
  have h0 : (immBOf w).getLsbD 0 = false := BitVec.getLsbD_append.trans (by simp)
  simp only [evenOffset13, h0, Bool.not_false]

@[simp] theorem evenOffset21_immJOf (w : Word) : evenOffset21 (immJOf w) = true := by
  have h0 : (immJOf w).getLsbD 0 = false := BitVec.getLsbD_append.trans (by simp)
  simp only [evenOffset21, h0, Bool.not_false]

theorem isUnknownWord_iff (w : Word) : isUnknownWord w = true ↔
    opcodeOf w ∉ tableOpcodes ∨
    (opcodeOf w = 0b1100011#7 ∧ funct3Of w ∈ branchFunct3Unused) ∨
    (opcodeOf w = 0b0000011#7 ∧ funct3Of w ∈ loadFunct3Unused) ∨
    (opcodeOf w = 0b0100011#7 ∧ funct3Of w ∈ storeFunct3Unused) ∨
    (opcodeOf w = 0b1110011#7 ∧ immIOf w ≠ 0#12 ∧ immIOf w ≠ 1#12) := by
  simp only [isUnknownWord, opcodeOf, funct3Of, immIOf, Bool.or_eq_true, Bool.and_eq_true, Bool.not_eq_true', bne_iff_ne,
    beq_iff_eq, List.contains_eq_mem, decide_eq_true_eq, decide_eq_false_iff_not, or_assoc, and_assoc]

/-- The funct3 values that a chain of tests leaves over are the unused ones of R84. -/
theorem mem_branchFunct3Unused {f : BitVec 3} (h0 : f ≠ 0b000#3) (h1 : f ≠ 0b001#3) (h4 : f ≠ 0b100#3) (h5 : f ≠ 0b101#3)
    (h6 : f ≠ 0b110#3) (h7 : f ≠ 0b111#3) : f ∈ branchFunct3Unused := by
  revert f
  decide

theorem mem_loadFunct3Unused {f : BitVec 3} (h0 : f ≠ 0b000#3) (h1 : f ≠ 0b001#3) (h2 : f ≠ 0b010#3) (h4 : f ≠ 0b100#3)
    (h5 : f ≠ 0b101#3) : f ∈ loadFunct3Unused := by
  revert f
  decide

theorem mem_storeFunct3Unused {f : BitVec 3} (h0 : f ≠ 0b000#3) (h1 : f ≠ 0b001#3) (h2 : f ≠ 0b010#3) :
    f ∈ storeFunct3Unused := by
  revert f
  decide

/-- A test of the decoder: both answers are well-formed, each where it is given. -/
theorem wellFormed_ite {c : Prop} [Decidable c] {i j : Instr} (hi : c → i.wellFormed = true)
    (hj : ¬ c → j.wellFormed = true) : (if c then i else j).wellFormed = true := by
  by_cases h : c
  · rw [if_pos h]; exact hi h
  · rw [if_neg h]; exact hj h

theorem wellFormed_decodeBranch {w : Word} (h : opcodeOf w = 0b1100011#7) : (decodeBranch w).wellFormed = true :=
  have heven : evenOffset13 (immBOf w) = true := evenOffset13_immBOf w
  wellFormed_ite (fun _ => heven) fun h0 => wellFormed_ite (fun _ => heven) fun h1 =>
  wellFormed_ite (fun _ => heven) fun h4 => wellFormed_ite (fun _ => heven) fun h5 =>
  wellFormed_ite (fun _ => heven) fun h6 => wellFormed_ite (fun _ => heven) fun h7 =>
  (isUnknownWord_iff w).2 (.inr (.inl ⟨h, mem_branchFunct3Unused h0 h1 h4 h5 h6 h7⟩))

theorem wellFormed_decodeLoad {w : Word} (h : opcodeOf w = 0b0000011#7) : (decodeLoad w).wellFormed = true :=
  wellFormed_ite (fun _ => rfl) fun h0 => wellFormed_ite (fun _ => rfl) fun h1 =>
  wellFormed_ite (fun _ => rfl) fun h2 => wellFormed_ite (fun _ => rfl) fun h4 =>
  wellFormed_ite (fun _ => rfl) fun h5 =>
  (isUnknownWord_iff w).2 (.inr (.inr (.inl ⟨h, mem_loadFunct3Unused h0 h1 h2 h4 h5⟩)))

theorem wellFormed_decodeStore {w : Word} (h : opcodeOf w = 0b0100011#7) : (decodeStore w).wellFormed = true :=
  wellFormed_ite (fun _ => rfl) fun h0 => wellFormed_ite (fun _ => rfl) fun h1 => wellFormed_ite (fun _ => rfl) fun h2 =>
  (isUnknownWord_iff w).2 (.inr (.inr (.inr (.inl ⟨h, mem_storeFunct3Unused h0 h1 h2⟩))))

theorem wellFormed_decodeOpImm (w : Word) : (decodeOpImm w).wellFormed = true :=
  wellFormed_ite (fun _ => rfl) fun _ => wellFormed_ite (fun _ => rfl) fun _ => wellFormed_ite (fun _ => rfl) fun _ =>
  wellFormed_ite (fun _ => rfl) fun _ => wellFormed_ite (fun _ => rfl) fun _ => wellFormed_ite (fun _ => rfl) fun _ =>
  wellFormed_ite (fun _ => rfl) fun _ => wellFormed_ite (fun _ => rfl) fun _ => rfl

theorem wellFormed_decodeOp (w : Word) : (decodeOp w).wellFormed = true :=
  wellFormed_ite
    (fun _ =>
      wellFormed_ite (fun _ => rfl) fun _ => wellFormed_ite (fun _ => rfl) fun _ => wellFormed_ite (fun _ => rfl) fun _ =>
      wellFormed_ite (fun _ => rfl) fun _ => wellFormed_ite (fun _ => rfl) fun _ => wellFormed_ite (fun _ => rfl) fun _ =>
      wellFormed_ite (fun _ => rfl) fun _ => rfl)
    fun _ =>
      wellFormed_ite (fun _ => wellFormed_ite (fun _ => rfl) fun _ => rfl) fun _ =>
      wellFormed_ite (fun _ => rfl) fun _ => wellFormed_ite (fun _ => rfl) fun _ => wellFormed_ite (fun _ => rfl) fun _ =>
      wellFormed_ite (fun _ => rfl) fun _ =>
      wellFormed_ite (fun _ => wellFormed_ite (fun _ => rfl) fun _ => rfl) fun _ =>
      wellFormed_ite (fun _ => rfl) fun _ => rfl

theorem wellFormed_decodeSystem {w : Word} (h : opcodeOf w = 0b1110011#7) : (decodeSystem w).wellFormed = true :=
  wellFormed_ite (fun _ => rfl) fun h0 => wellFormed_ite (fun _ => rfl) fun h1 =>
  (isUnknownWord_iff w).2 (.inr (.inr (.inr (.inr ⟨h, h0, h1⟩))))

/-- The decoder gives well-formed instructions (R75, R77, R84): one test per opcode, in the order of R80. -/
theorem wellFormed_decodeWord (w : Word) : (decodeWord w).wellFormed = true :=
  wellFormed_ite (fun _ => rfl) fun hLui => wellFormed_ite (fun _ => rfl) fun hAuipc =>
  wellFormed_ite (fun _ => evenOffset21_immJOf w) fun hJal => wellFormed_ite (fun _ => rfl) fun hJalr =>
  wellFormed_ite wellFormed_decodeBranch fun hBranch => wellFormed_ite wellFormed_decodeLoad fun hLoad =>
  wellFormed_ite wellFormed_decodeStore fun hStore => wellFormed_ite (fun _ => wellFormed_decodeOpImm w) fun hOpImm =>
  wellFormed_ite (fun _ => wellFormed_decodeOp w) fun hOp => wellFormed_ite wellFormed_decodeSystem fun hSystem =>
  wellFormed_ite (fun _ => rfl) fun hFence =>
  (isUnknownWord_iff w).2 (.inl (by simp [tableOpcodes, *]))

/-! The immediates of a well-formed instruction. -/

/-- A sign extension of a number whose bit 0 is 0 is even. -/
theorem signExtend_even {n : Nat} {x : BitVec n} (hn : 0 < n) (h : x.getLsbD 0 = false) : (x.signExtend 32).toNat % 2 = 0 := by
  have hbit : (x.signExtend 32).toNat.testBit 0 = false := by
    rw [BitVec.testBit_toNat, BitVec.getLsbD_signExtend]
    simpa [hn] using h
  simpa [Nat.testBit_zero] using hbit

/-- The offsets of the branches and of JAL are even (R75, R77). -/
theorem Instr.imm_even {i : Instr} (hwf : i.wellFormed = true) (hk : i.kind.isBranch = true ∨ i.kind = .jal) :
    i.imm.toNat % 2 = 0 := by
  match i, hk with
  | .jal _ off, _ => exact signExtend_even (by decide) (by simpa [Instr.wellFormed, evenOffset21] using hwf)
  | .beq _ _ off, _ | .bne _ _ off, _ | .blt _ _ off, _ | .bge _ _ off, _ | .bltu _ _ off, _ | .bgeu _ _ off, _ =>
    exact signExtend_even (by decide) (by simpa [Instr.wellFormed, evenOffset13] using hwf)

/-- The immediate of LUI and AUIPC has its low 12 bits 0 (R76). -/
theorem Instr.imm_upper {i : Instr} (hk : i.kind = .lui ∨ i.kind = .auipc) : i.imm.toNat % 4096 = 0 := by
  match i, hk with
  | .lui _ imm20, _ | .auipc _ imm20, _ =>
    have happ : (imm20 ++ 0#12 : BitVec 32).toNat = imm20.toNat <<< 12 ||| 0 := BitVec.toNat_append ..
    simp [Instr.imm, happ, Nat.shiftLeft_eq]

/-- The immediate of an immediate shift is at most 31 (R78). -/
theorem Instr.imm_shift {i : Instr} (hk : i.kind = .slli ∨ i.kind = .srli ∨ i.kind = .srai) : i.imm.toNat < 32 := by
  match i, hk with
  | .slli _ _ shamt, _ | .srli _ _ shamt, _ | .srai _ _ shamt, _ =>
    have := shamt.isLt
    simp [Instr.imm]
    omega

/-- Settles O7: the fields are read off the record; the four roles are exclusive for every kind, and the immediates are those
of a well-formed instruction. -/
theorem decodedRecordInvariants : Obligations.DecodedRecordInvariants := by
  intro w p
  obtain ⟨_, _, _, _, hroles, _⟩ := Laws.ControlBits.consistent (decodeWord w).kind
  exact ⟨rfl, rfl, rfl, rfl, rfl, rfl, hroles, Instr.imm_even (wellFormed_decodeWord w), Instr.imm_upper, Instr.imm_shift⟩

/-! The load-use predicate. -/

/-- Settles O38: the predicate is a conjunction of tests; a flushed IF/ID holds the NOP, whose register fields name `x0`. -/
theorem loadUsePredicate : Obligations.LoadUsePredicate := by
  have hiff : ∀ (d : IdEx) (next : Decoded), detectLoadUse d next = true ↔
      d.valid = true ∧ d.ins.memRead = true ∧ d.ins.rd ≠ 0#5 ∧ (next.rs1 = d.ins.rd ∨ next.rs2 = d.ins.rd) := by
    simp [detectLoadUse, and_assoc]
  refine ⟨hiff, fun d => Bool.eq_false_iff.2 fun h => ?_⟩
  obtain ⟨-, -, hrd, hrs⟩ := (hiff d _).1 h
  rcases hrs with hrs | hrs <;> exact hrd hrs.symm

end Sys2Proof
/-! Reset: what the placed launch image reads as, byte by byte, and the launch state. -/

namespace Sys2Proof.Machine

open Sys2Proof.Safety

/-! The offset of an address from a base, modulo 2^32: `(b - a).toNat`. -/

/-- The offset from a base moved on by `k` bytes. -/
theorem toNat_sub_add (a b : Address) (k : Nat) (hk : k < 2 ^ 32) :
    (b - (a + BitVec.ofNat 32 k)).toNat =
      if (b - a).toNat < k then (b - a).toNat + 2 ^ 32 - k else (b - a).toNat - k := by
  rw [BitVec.toNat_sub, BitVec.toNat_sub, BitVec.toNat_add, BitVec.toNat_ofNat, Nat.mod_eq_of_lt hk]
  have ha := a.isLt
  have hb := b.isLt
  split <;> omega

/-- Two addresses are equal exactly at offset `k`. -/
theorem eq_add_iff_toNat_sub (a b : Address) (k : Nat) (hk : k < 2 ^ 32) :
    b = a + BitVec.ofNat 32 k ↔ (b - a).toNat = k := by
  rw [← BitVec.toNat_inj, BitVec.toNat_sub, BitVec.toNat_add, BitVec.toNat_ofNat, Nat.mod_eq_of_lt hk]
  have ha := a.isLt
  have hb := b.isLt
  omega

/-! One word and one image. -/

/-- Reading a byte after writing a word (R44, R45): byte `n` of the word at offset `n` of its address, every byte beyond as
before. -/
theorem Memory.readByte_writeWord (m : Memory) (a : Address) (v : Word) (b : Address) :
    (m.writeWord a v).readByte b =
      if (b - a).toNat < 4 then v.extractLsb' (8 * (b - a).toNat) 8 else m.readByte b := by
  have h0 := eq_add_iff_toNat_sub a b 0 (by decide)
  have h1 := eq_add_iff_toNat_sub a b 1 (by decide)
  have h2 := eq_add_iff_toNat_sub a b 2 (by decide)
  have h3 := eq_add_iff_toNat_sub a b 3 (by decide)
  simp only [BitVec.add_zero] at h0
  simp only [writeWord, readByte_writeByte, h0, h1, h2, h3]
  generalize (b - a).toNat = n
  by_cases hn : n < 4
  · have : n = 0 ∨ n = 1 ∨ n = 2 ∨ n = 3 := by omega
    rcases this with rfl | rfl | rfl | rfl <;> simp
  · simp [hn, show n ≠ 0 by omega, show n ≠ 1 by omega, show n ≠ 2 by omega, show n ≠ 3 by omega]

/-- Placing a text image changes no byte beyond it (R57). -/
theorem Memory.readByte_placeWords_outside (m : Memory) (a : Address) (ws : List Word) (b : Address)
    (hb : 4 * ws.length ≤ (b - a).toNat) : (placeWords m a ws).readByte b = m.readByte b := by
  induction ws generalizing m a with
  | nil => rfl
  | cons w ws ih =>
    rw [List.length_cons] at hb
    have hoff := toNat_sub_add a b 4 (by decide)
    rw [if_neg (by omega)] at hoff
    rw [placeWords, ih _ _ (by omega), readByte_writeWord, if_neg (by omega)]

/-- A text image that does not wrap onto itself: byte `j` of its word `k` (R57). -/
theorem Memory.readByte_placeWords_inside (m : Memory) (a : Address) (ws : List Word) (b : Address)
    (hlen : 4 * ws.length ≤ 2 ^ 32) (k j : Nat) (hk : k < ws.length) (hj : j < 4) (hb : (b - a).toNat = 4 * k + j) :
    (placeWords m a ws).readByte b = ws[k].extractLsb' (8 * j) 8 := by
  induction ws generalizing m a k with
  | nil => simp at hk
  | cons w ws ih =>
    rw [List.length_cons] at hlen hk
    have hoff := toNat_sub_add a b 4 (by decide)
    cases k with
    | zero =>
      rw [if_pos (by omega)] at hoff
      rw [placeWords, readByte_placeWords_outside _ _ _ _ (by omega), readByte_writeWord, if_pos (by omega), hb]
      simp
    | succ k =>
      rw [if_neg (by omega)] at hoff
      exact ih _ _ (by omega) k (by omega) (by omega)

/-- Placing a data image changes no byte beyond it (R57). -/
theorem Memory.readByte_placeBytes_outside (m : Memory) (a : Address) (bs : List Byte) (b : Address)
    (hb : bs.length ≤ (b - a).toNat) : (placeBytes m a bs).readByte b = m.readByte b := by
  induction bs generalizing m a with
  | nil => rfl
  | cons v bs ih =>
    rw [List.length_cons] at hb
    have hoff := toNat_sub_add a b 1 (by decide)
    rw [if_neg (by omega)] at hoff
    have hne : b ≠ a := by rintro rfl; simp at hb
    rw [placeBytes, ih _ _ (by omega), readByte_writeByte, if_neg hne]

/-- A data image that does not wrap onto itself: its byte `k` (R57). -/
theorem Memory.readByte_placeBytes_inside (m : Memory) (a : Address) (bs : List Byte) (b : Address)
    (hlen : bs.length ≤ 2 ^ 32) (k : Nat) (hk : k < bs.length) (hb : (b - a).toNat = k) :
    (placeBytes m a bs).readByte b = bs[k] := by
  induction bs generalizing m a k with
  | nil => simp at hk
  | cons v bs ih =>
    rw [List.length_cons] at hlen hk
    have hoff := toNat_sub_add a b 1 (by decide)
    cases k with
    | zero =>
      have heq : b = a := by simpa using (eq_add_iff_toNat_sub a b 0 (by decide)).2 hb
      rw [if_pos (by omega)] at hoff
      rw [placeBytes, readByte_placeBytes_outside _ _ _ _ (by omega), readByte_writeByte, if_pos heq]
      rfl
    | succ k =>
      rw [if_neg (by omega)] at hoff
      exact ih _ _ (by omega) k (by omega) (by omega)

/-- A word is the concatenation of its four bytes (R41). -/
theorem append_bytes (w : Word) :
    w.extractLsb' 24 8 ++ w.extractLsb' 16 8 ++ w.extractLsb' 8 8 ++ w.extractLsb' 0 8 = w := by
  have h2 : w.extractLsb' 24 8 ++ w.extractLsb' 16 8 = w.extractLsb' 16 16 :=
    BitVec.extractLsb'_append_extractLsb'_eq_extractLsb' rfl
  have h1 : w.extractLsb' 16 16 ++ w.extractLsb' 8 8 = w.extractLsb' 8 24 :=
    BitVec.extractLsb'_append_extractLsb'_eq_extractLsb' rfl
  have h0 : w.extractLsb' 8 24 ++ w.extractLsb' 0 8 = w.extractLsb' 0 32 :=
    BitVec.extractLsb'_append_extractLsb'_eq_extractLsb' rfl
  rw [h2, h1, h0, BitVec.extractLsb'_eq_self]

/-! The launch memory: the text from address 0, the data from 0x10000000, and 0 elsewhere. -/

section
variable (p : LaunchParams)

/-- Off the data image the launch memory is the placed text. -/
theorem readByte_launchMemory_of_not_data (hdata : p.dataImage.length ≤ 0xF0000000) (a : Address)
    (ha : a.toNat < 0x10000000 ∨ 0x10000000 + p.dataImage.length ≤ a.toNat) :
    (launchMemory p).readByte a = (placeWords [] Config.textBase p.textImage).readByte a := by
  refine Memory.readByte_placeBytes_outside _ _ _ _ ?_
  have := a.isLt
  simp only [Config.dataBase, BitVec.toNat_sub, BitVec.toNat_ofNat]
  omega

theorem readByte_launchMemory_text (htext : 4 * p.textImage.length ≤ 0x10000000)
    (hdata : p.dataImage.length ≤ 0xF0000000) (k j : Nat) (hk : k < p.textImage.length) (hj : j < 4) :
    (launchMemory p).readByte (BitVec.ofNat 32 (4 * k) + BitVec.ofNat 32 j) = p.textImage[k].extractLsb' (8 * j) 8 := by
  have ha : (BitVec.ofNat 32 (4 * k) + BitVec.ofNat 32 j).toNat = 4 * k + j := by
    simp only [BitVec.toNat_add, BitVec.toNat_ofNat]
    omega
  rw [readByte_launchMemory_of_not_data p hdata _ (by omega)]
  refine Memory.readByte_placeWords_inside _ _ _ _ (by omega) k j hk hj ?_
  rw [Config.textBase, BitVec.sub_zero, ha]

theorem readByte_launchMemory_data (hdata : p.dataImage.length ≤ 0xF0000000) (k : Nat) (hk : k < p.dataImage.length) :
    (launchMemory p).readByte (BitVec.ofNat 32 (0x10000000 + k)) = p.dataImage[k] := by
  refine Memory.readByte_placeBytes_inside _ _ _ _ (by omega) k hk ?_
  simp only [Config.dataBase, BitVec.toNat_sub, BitVec.toNat_ofNat]
  omega

theorem readByte_launchMemory_elsewhere (hdata : p.dataImage.length ≤ 0xF0000000) (a : Address)
    (htext : 4 * p.textImage.length ≤ a.toNat) (ha : a.toNat < 0x10000000 ∨ 0x10000000 + p.dataImage.length ≤ a.toNat) :
    (launchMemory p).readByte a = 0#8 := by
  rw [readByte_launchMemory_of_not_data p hdata a ha, Memory.readByte_placeWords_outside _ _ _ _ (by simpa [Config.textBase])]
  rfl

/-- The text words read back little-endian (R57). -/
theorem readWord_launchMemory_text (htext : 4 * p.textImage.length ≤ 0x10000000)
    (hdata : p.dataImage.length ≤ 0xF0000000) (k : Nat) (hk : k < p.textImage.length) :
    (launchMemory p).readWord (BitVec.ofNat 32 (4 * k)) = p.textImage[k] := by
  have hbyte := readByte_launchMemory_text p htext hdata k
  have h0 := hbyte 0 hk (by decide)
  rw [BitVec.add_zero] at h0
  rw [Memory.readWord, hbyte 3 hk (by decide), hbyte 2 hk (by decide), hbyte 1 hk (by decide), h0]
  exact append_bytes _

end

/-! The launch state. -/

/-- The registers after reset: `x2` is `SP_INIT`, every other one 0 (R30, R270). -/
theorem readReg_resetInput (p : LaunchParams) (s : State) (i : RegIdx) :
    readReg (resetInput p s) i = if i = 2#5 then p.spInit else 0#32 := by
  have h2 : 2 = i.toNat ↔ i = 2#5 := (BitVec.toNat_inj (x := 2#5)).trans eq_comm
  by_cases h0 : i = 0#5
  · simp [h0]
  · simp [readReg, resetInput, h0, Vector.getElem_set, h2]

/-- The launch state is what reset with the default parameters leaves of itself. -/
theorem resetInput_default : resetInput {} State.reset = State.reset := rfl

/-- Settles O52: the fields are read off `resetInput`, the image off the launch memory. -/
theorem resetPlacesTheImage : Obligations.ResetPlacesTheImage := by
  refine ⟨fun p s => ?_, fun p s t hhd hfw hbp hen => ?_, fun p s htext hdata => ⟨?_, ?_, ?_⟩⟩
  · exact ⟨rfl, rfl, rfl, rfl, readReg_resetInput p s, rfl, rfl, rfl, rfl, rfl, rfl, rfl, rfl, rfl, rfl, rfl, rfl, rfl, rfl, rfl⟩
  · simp only [resetInput, hhd, hfw, hbp, hen]
  · exact readWord_launchMemory_text p htext hdata
  · exact readByte_launchMemory_data p hdata
  · exact readByte_launchMemory_elsewhere p hdata

/-- Settles O51: the registers are those of a reset with the default parameters, the other fields are read off. -/
theorem resetLeavesLaunchState : Obligations.ResetLeavesLaunchState := by
  refine ⟨fun i => ?_, rfl, rfl, fun _ => rfl, rfl, rfl, rfl, rfl, rfl, rfl, rfl, rfl, rfl, rfl, rfl, rfl, rfl, rfl, rfl, rfl,
    rfl⟩
  rw [← resetInput_default, readReg_resetInput]
  rfl

/-! The invariants at reset. -/

theorem inv_resetInput (p : LaunchParams) (s : State) : Inv (resetInput p s) where
  memWf := Memory.wf_launchMemory p
  x0Stored := by simp [resetInput]
  ifIdOk := ifIdOk_flushed
  idExOk := idExOk_flushed
  exMemOk := exMemOk_flushed
  memWbOk := memWbOk_flushed
  nextPcFollows := fun _ => rfl
  fetchedBehind := fun h => absurd h Bool.false_ne_true
  flushesEven := rfl
  conservation := by simp [resetInput, State.reset, flushedIfId, flushedIdEx, flushedExMem]

theorem flow_resetInput (p : LaunchParams) (s : State) : Flow (resetInput p s) where
  nextPcFollows := rfl
  pcFollows := fun h => absurd h Bool.false_ne_true
  idExFollows := fun h => absurd h Bool.false_ne_true
  operand1 := fun h => absurd h Bool.false_ne_true
  operand2 := fun h => absurd h Bool.false_ne_true

theorem loadUseSafe_resetInput (p : LaunchParams) (s : State) : LoadUseSafe (resetInput p s) :=
  fun h => absurd h Bool.false_ne_true

/-- Settles O53: a reset leaves every latch flushed and every counter 0, whatever the parameters. -/
theorem invariantHoldsAtReset : Obligations.InvariantHoldsAtReset := by
  have hreset : ∀ p s, Inv (resetInput p s) ∧ Flow (resetInput p s) ∧ LoadUseSafe (resetInput p s) := fun p s =>
    ⟨inv_resetInput p s, flow_resetInput p s, loadUseSafe_resetInput p s⟩
  obtain ⟨hinv, hflow, hsafe⟩ := hreset {} State.reset
  exact ⟨hinv, hflow, hsafe, hreset⟩

end Sys2Proof.Machine
/-! Memory: the bytes a store leaves, the values they read back as, and what an instruction does to them. -/

namespace Sys2Proof.Machine

open Sys2Proof.Safety

/-! The bytes of a store. -/

/-- The `n` bytes from `a` on are those at an offset below `n` (R44, R45). -/
theorem inBytes_iff (a : Address) (n : Nat) (b : Address) (hn : n ≤ 2 ^ 32) : inBytes a n b ↔ (b - a).toNat < n :=
  ⟨fun ⟨k, hk, hb⟩ => (eq_add_iff_toNat_sub a b k (by omega)).1 hb ▸ hk,
    fun h => ⟨_, h, (eq_add_iff_toNat_sub a b _ (b - a).isLt).2 rfl⟩⟩

theorem accessWidth_le (k : Kind) : accessWidth k ≤ 4 := by
  cases k <;> decide

/-- Reading a byte after writing a half word (R44, R45). -/
theorem Memory.readByte_writeHalf (m : Memory) (a : Address) (v : HalfWord) (b : Address) :
    (m.writeHalf a v).readByte b =
      if (b - a).toNat < 2 then v.extractLsb' (8 * (b - a).toNat) 8 else m.readByte b := by
  have h0 := eq_add_iff_toNat_sub a b 0 (by decide)
  have h1 := eq_add_iff_toNat_sub a b 1 (by decide)
  simp only [BitVec.add_zero] at h0
  simp only [writeHalf, readByte_writeByte, h0, h1]
  generalize (b - a).toNat = n
  match n with
  | 0 | 1 | n + 2 => simp

/-- Reading a byte after a store (R44, R45): byte `n` of the value at offset `n` of its address, every byte beyond its width as
before. -/
theorem readByte_storeValue {k : Kind} (hk : k.isStore = true) (m : Memory) (a : Address) (v : Word) (b : Address) :
    (storeValue k m a v).readByte b =
      if (b - a).toNat < accessWidth k then v.extractLsb' (8 * (b - a).toNat) 8 else m.readByte b := by
  match k, hk with
  | .sb, _ =>
    have h0 := eq_add_iff_toNat_sub a b 0 (by decide)
    simp only [BitVec.add_zero] at h0
    simp only [storeValue, accessWidth, Memory.readByte_writeByte, h0, Nat.lt_one_iff]
    exact ite_congr rfl (fun hn => by rw [hn]) fun _ => rfl
  | .sh, _ =>
    simp only [storeValue, accessWidth, Memory.readByte_writeHalf]
    exact ite_congr rfl (fun hn => BitVec.extractLsb'_extractLsb'_of_le (by omega)) fun _ => rfl
  | .sw, _ => exact Memory.readByte_writeWord m a v b

/-- The bytes a store writes (R44). -/
theorem readByte_storeValue_at {k : Kind} (hk : k.isStore = true) (m : Memory) (a : Address) (v : Word) {n : Nat}
    (hn : n < accessWidth k) : (storeValue k m a v).readByte (a + BitVec.ofNat 32 n) = v.extractLsb' (8 * n) 8 := by
  have hw := accessWidth_le k
  have hoff := (eq_add_iff_toNat_sub a _ n (by omega)).1 rfl
  rw [readByte_storeValue hk, hoff, if_pos hn]

/-- The bytes a store leaves alone (R44). -/
theorem readByte_storeValue_outside {k : Kind} (hk : k.isStore = true) (m : Memory) (a : Address) (v : Word) {b : Address}
    (hb : ¬ inBytes a (accessWidth k) b) : (storeValue k m a v).readByte b = m.readByte b := by
  have hw := accessWidth_le k
  rw [inBytes_iff a _ b (by omega)] at hb
  rw [readByte_storeValue hk, if_neg hb]

/-- Settles O25: writes of 1, 2 and 4 bytes are the three stores, which write the bytes of their width and no other. -/
theorem memWriteTouchesItsBytesOnly : Obligations.MemWriteTouchesItsBytesOnly := by
  intro m a v
  have hbyte : (storeValue .sb m a v).readByte (a + 0#32) = v.extractLsb' 0 8 :=
    readByte_storeValue_at rfl m a v (n := 0) (by decide)
  rw [BitVec.add_zero] at hbyte
  exact ⟨hbyte, fun _ => readByte_storeValue_outside (k := .sb) rfl m a v,
    fun _ => readByte_storeValue_at (k := .sh) rfl m a v, fun _ => readByte_storeValue_outside (k := .sh) rfl m a v,
    fun _ => readByte_storeValue_at (k := .sw) rfl m a v, fun _ => readByte_storeValue_outside (k := .sw) rfl m a v⟩

/-! Half words and words as their bytes. -/

/-- A half word of a word is the concatenation of two neighbouring bytes (R41). -/
theorem append_two_bytes (w : Word) (n : Nat) : w.extractLsb' (n + 8) 8 ++ w.extractLsb' n 8 = w.extractLsb' n 16 :=
  BitVec.extractLsb'_append_extractLsb'_eq_extractLsb' rfl

/-- The bytes of a written word (R44). -/
theorem Memory.readByte_writeWord_at (m : Memory) (a : Address) (w : Word) {n : Nat} (hn : n < 4) :
    (m.writeWord a w).readByte (a + BitVec.ofNat 32 n) = w.extractLsb' (8 * n) 8 :=
  readByte_storeValue_at (k := .sw) rfl m a w hn

/-- A word reads back as it was written (R41). -/
@[simp] theorem Memory.readWord_writeWord (m : Memory) (a : Address) (w : Word) : (m.writeWord a w).readWord a = w := by
  have h0 := m.readByte_writeWord_at a w (n := 0) (by decide)
  rw [BitVec.add_zero] at h0
  rw [readWord, readByte_writeWord_at m a w (n := 3) (by decide), readByte_writeWord_at m a w (n := 2) (by decide),
    readByte_writeWord_at m a w (n := 1) (by decide), h0]
  exact append_bytes w

/-- The half word at offset `n` of a written word (R41). -/
theorem Memory.readHalf_writeWord (m : Memory) (a : Address) (w : Word) {n : Nat} (hn : n < 3) :
    (m.writeWord a w).readHalf (a + BitVec.ofNat 32 n) = w.extractLsb' (8 * n) 16 := by
  have hnext : a + BitVec.ofNat 32 n + 1#32 = a + BitVec.ofNat 32 (n + 1) := by
    rw [BitVec.add_assoc, ← BitVec.ofNat_add]
  rw [readHalf, hnext, readByte_writeWord_at m a w (by omega), readByte_writeWord_at m a w (by omega)]
  exact append_two_bytes w (8 * n)

/-- Settles O23: the bytes of a written word, as numbers, and the half words and the word they make up. -/
theorem wordWritesAreLittleEndian : Obligations.WordWritesAreLittleEndian := by
  intro m a w
  have hlow := m.readHalf_writeWord a w (n := 0) (by decide)
  rw [BitVec.add_zero] at hlow
  refine ⟨fun i hi => ?_, hlow, m.readHalf_writeWord a w (n := 2) (by decide), m.readWord_writeWord a w⟩
  rw [m.readByte_writeWord_at a w hi, BitVec.extractLsb'_toNat]
  exact (Nat.and_two_pow_sub_one_eq_mod _ 8).symm

theorem toNat_append_add {m n : Nat} (x : BitVec m) (y : BitVec n) : (x ++ y).toNat = x.toNat * 2 ^ n + y.toNat := by
  rw [BitVec.toNat_append, ← Nat.shiftLeft_add_eq_or_of_lt y.isLt, Nat.shiftLeft_eq]

/-- Settles O24: the numbers of the concatenated bytes add up; a sign extension keeps the signed number. -/
theorem memReadIsTheByteSum : Obligations.MemReadIsTheByteSum := by
  intro m a
  refine ⟨?_, ?_, BitVec.toInt_signExtend_of_le (by decide), BitVec.toInt_signExtend_of_le (by decide)⟩
  · simp only [Memory.readHalf, toNat_append_add, Nat.shiftLeft_eq]
    omega
  · simp only [Memory.readWord, toNat_append_add, Nat.shiftLeft_eq]
    omega

/-! What an instruction does to memory. -/

/-- The effective address is the sum of the signed numbers modulo 2^32 (R14, R180). -/
theorem effectiveAddress_eq_ofInt (s : State) (rs1 : RegIdx) (imm : BitVec 12) :
    effectiveAddress s rs1 imm = BitVec.ofInt 32 ((readReg s rs1).toInt + imm.toInt) := by
  rw [BitVec.ofInt_add, BitVec.ofInt_toInt]
  rfl

theorem readByte_storeFrom_at {k : Kind} (hk : k.isStore = true) (rs1 rs2 : RegIdx) (imm : BitVec 12) (s : State) (n : Nat)
    (hn : n < accessWidth k) :
    (storeFrom k rs1 rs2 imm s).mem.readByte (effectiveAddress s rs1 imm + BitVec.ofNat 32 n) =
      (readReg s rs2).extractLsb' (8 * n) 8 :=
  readByte_storeValue_at hk s.mem _ _ hn

theorem readByte_storeFrom_outside {k : Kind} (hk : k.isStore = true) (rs1 rs2 : RegIdx) (imm : BitVec 12) (s : State)
    (b : Address) (hb : ¬ inBytes (effectiveAddress s rs1 imm) (accessWidth k) b) :
    (storeFrom k rs1 rs2 imm s).mem.readByte b = s.mem.readByte b :=
  readByte_storeValue_outside hk s.mem _ _ hb

/-- Settles O12: each store retires the state with its bytes stored and its access counted. -/
theorem storeResults : Obligations.StoreResults := by
  intro rs1 rs2 imm s
  have hb := readByte_storeFrom_at (k := .sb) rfl rs1 rs2 imm s
  have hh := readByte_storeFrom_at (k := .sh) rfl rs1 rs2 imm s
  have hw := readByte_storeFrom_at (k := .sw) rfl rs1 rs2 imm s
  exact ⟨effectiveAddress_eq_ofInt s rs1 imm,
    ⟨_, rfl, hb 0 (by decide), readByte_storeFrom_outside (k := .sb) rfl rs1 rs2 imm s, rfl⟩,
    ⟨_, rfl, hh 0 (by decide), hh 1 (by decide), readByte_storeFrom_outside (k := .sh) rfl rs1 rs2 imm s, rfl⟩,
    ⟨_, rfl, hw 0 (by decide), hw 1 (by decide), hw 2 (by decide), hw 3 (by decide),
      readByte_storeFrom_outside (k := .sw) rfl rs1 rs2 imm s, rfl⟩⟩

theorem exec_mem_of_not_store {i : Instr} {s t : State} (hi : i.kind.isStore = false) (h : exec i s = .next t) :
    t.mem = s.mem := by
  cases exec_effect h with
  | store _ _ _ _ hs => simp [hi] at hs
  | result | load | advance | ecall => simp

/-- `storeOf` names the store that the instruction performs, and there is none where the kind is no store. -/
theorem storeOf_cases (i : Instr) (s : State) :
    (i.kind.isStore = false ∧ storeOf i s = none) ∨
    ∃ (k : Kind) (rs1 rs2 : RegIdx) (imm : BitVec 12), k.isStore = true ∧
      storeOf i s = some (effectiveAddress s rs1 imm, accessWidth k) ∧ exec i s = .next (storeFrom k rs1 rs2 imm s) := by
  cases i with
  | sb rs1 rs2 imm => exact .inr ⟨.sb, rs1, rs2, imm, rfl, rfl, rfl⟩
  | sh rs1 rs2 imm => exact .inr ⟨.sh, rs1, rs2, imm, rfl, rfl, rfl⟩
  | sw rs1 rs2 imm => exact .inr ⟨.sw, rs1, rs2, imm, rfl, rfl, rfl⟩
  | _ => exact .inl ⟨rfl, rfl⟩

/-- Settles O21: an instruction stores what `storeOf` names, or leaves memory as it is. -/
theorem memoryFrame : Obligations.MemoryFrame := by
  intro i s t h
  rcases storeOf_cases i s with ⟨hk, hnone⟩ | ⟨k, rs1, rs2, imm, hk, hsome, hx⟩
  · rw [exec_mem_of_not_store hk h, hnone]
    exact ⟨fun _ _ => rfl, fun _ _ _ _ _ => rfl⟩
  · cases hx.symm.trans h
    rw [hsome]
    refine ⟨nofun, fun a n ha b hb => ?_⟩
    cases ha
    exact readByte_storeValue_outside hk s.mem _ _ hb

/-! Fetching. -/

/-- Settles O30: the four bytes at `pc` make up the fetched word. -/
theorem stepRunsDecodedInstruction : Obligations.StepRunsDecodedInstruction := by
  intro s i he hh hdec
  cases hdec
  exact step_singleCycle s he hh

/-- Settles O31: the placed word is the one fetched from `pc`. -/
theorem placedWordRunsNext : Obligations.PlacedWordRunsNext := by
  intro s w
  have hw : BitVec.ofNat 32 (w % 2 ^ 32) = BitVec.ofNat 32 w :=
    BitVec.eq_of_toNat_eq (by simp only [BitVec.toNat_ofNat, Nat.mod_mod])
  have hfetch : fetchWord (s.withFetchWord 32 w) = BitVec.ofNat 32 w := (Memory.readWord_writeWord s.mem s.pc _).trans hw
  rw [step_singleCycle _ rfl rfl, hfetch]

/-! MEM in a tick: what the stage changes, and that no other stage touches memory, MEM/WB or the counters of MEM. -/

theorem accessMemory_memReads (i : Decoded) (r b : Word) (s : State) :
    (accessMemory i r b s).memReads = s.memReads + if i.memRead = true then accessCount (accessWidth i.kind) else 0 := by
  unfold accessMemory
  cases i.memRead with
  | true => simp
  | false => cases i.memWrite <;> simp

theorem accessMemory_memWrites (i : Decoded) (r b : Word) (s : State) :
    (accessMemory i r b s).memWrites =
      s.memWrites + if i.memRead = false ∧ i.memWrite = true then accessCount (accessWidth i.kind) else 0 := by
  unfold accessMemory
  cases i.memRead with
  | true => simp
  | false => cases i.memWrite <;> simp

theorem memStage_memReads (e : ExMem) (s : State) :
    (memStage e s).memReads =
      s.memReads + if e.valid = true ∧ e.ins.memRead = true then accessCount (accessWidth e.ins.kind) else 0 := by
  unfold memStage
  cases e.valid <;> simp [accessMemory_memReads]

theorem memStage_memWrites (e : ExMem) (s : State) :
    (memStage e s).memWrites = s.memWrites +
      if e.valid = true ∧ e.ins.memRead = false ∧ e.ins.memWrite = true then accessCount (accessWidth e.ins.kind) else 0 := by
  unfold memStage
  cases e.valid <;> simp [accessMemory_memWrites]

theorem isNop_eq_false (raw : Word) : isNop raw = false ↔ raw ≠ 0x00000013#32 ∧ raw ≠ 0#32 := by
  simp [isNop, nopWord]

theorem memStage_instructions (e : ExMem) (s : State) :
    (memStage e s).instructions = s.instructions +
      if e.valid = true ∧ e.ins.kind ≠ .unknown ∧ e.ins.raw ≠ 0x00000013#32 ∧ e.ins.raw ≠ 0#32 then 1 else 0 := by
  unfold memStage
  cases e.valid <;> simp [isNop_eq_false]

/-- A valid EX/MEM that stores does not load (R20). -/
theorem memRead_of_memWrite {e : ExMem} (he : ExMemOk e) (hv : e.valid = true) (hw : e.ins.memWrite = true) :
    e.ins.memRead = false := by
  have hins := (he.2 hv).1
  obtain ⟨-, -, -, -, -, -, hroles, -⟩ := decodedRecordInvariants e.ins.raw e.ins.pc
  rw [← hins, hw] at hroles
  cases hr : e.ins.memRead with
  | false => rfl
  | true =>
    simp only [hr, Bool.toNat_true] at hroles
    omega

/-- A tick changes memory, MEM/WB and the counters of MEM as MEM alone would; the fetch of a tick that does not stall moves the
read counter on (R294, R298, R299). -/
theorem tick_memory {s : State} (hs : s.halted = false) :
    (tick s).mem = (memStage s.exMem s).mem ∧ (tick s).memWb = (memStage s.exMem s).memWb ∧
    (tick s).instructions = (memStage s.exMem s).instructions ∧
    (tick s).memWrites = (memStage s.exMem s).memWrites ∧ (tick s).stalled = stallNow s ∧
    (tick s).memReads = (memStage s.exMem s).memReads + if (tick s).stalled = true then 0 else fetchCount := by
  have hback : (backEnd s).memWb = (memStage s.exMem s).memWb ∧
      (backEnd s).instructions = (memStage s.exMem s).instructions ∧
      (backEnd s).memWrites = (memStage s.exMem s).memWrites ∧ (backEnd s).memReads = (memStage s.exMem s).memReads := by
    simp [backEnd, memStage_memWb, memDataOf, memStage_instructions, memStage_memWrites, memStage_memReads]
  obtain ⟨hwb, hinstr, hwrites, hreads⟩ := hback
  cases hst : stallNow s with
  | true => simp [tick_stalled s hs hst, hst, hwb, hinstr, hwrites, hreads]
  | false => simp [tick_flowing s hs hst, hst, hwb, hinstr, hwrites, hreads]

/-- Settles O41: memory, MEM/WB and their counters are as MEM leaves them, but for the fetch; that a store does not load comes
from the invariant. -/
theorem memoryTick : Obligations.MemoryTick := by
  intro s t he hs hinv h
  obtain rfl := eq_tick_of_step he h
  obtain ⟨hmem, hwb, hinstr, hwrites, -, hreads⟩ := tick_memory hs
  rw [hmem, hwb, hinstr, hwrites, hreads, memStage_mem, memStage_memWb, memStage_instructions, memStage_memWrites,
    memStage_memReads]
  have hrole := memRead_of_memWrite hinv.exMemOk
  cases hv : s.exMem.valid with
  | false => simp
  | true =>
    cases hw : s.exMem.ins.memWrite with
    | false => simp [memDataOf]
    | true => simp [memDataOf, hrole hv hw]

/-! A tick that neither stalls nor redirects. -/

/-- EX that does not redirect leaves the front of the pipeline alone (R296). -/
theorem exStage_front {d : IdEx} {e : ExMem} {m : MemWb} {s : State} (h : (exStage d e m s).exMem.branchTaken = false) :
    (exStage d e m s).pc = s.pc ∧ (exStage d e m s).nextPc = s.nextPc ∧ (exStage d e m s).ifId = s.ifId ∧
    (exStage d e m s).flushes = s.flushes := by
  rcases exStage_cases d e m s with ⟨_, hex⟩ | ⟨_, A, B, n, _, hex⟩ | ⟨_, A, B, n, htaken, hex⟩
  · simp [hex]
  · simp [hex]
  · simp [hex, executed, htaken] at h

theorem backEnd_front {s : State} (h : (backEnd s).exMem.branchTaken = false) :
    (backEnd s).pc = s.pc ∧ (backEnd s).nextPc = s.nextPc ∧ (backEnd s).ifId = s.ifId ∧ (backEnd s).flushes = s.flushes := by
  simpa [backEnd] using exStage_front h

/-- Settles O44: ID and IF run on the front of the pipeline as the tick found it, and on the registers and the memory as WB and
MEM leave them. -/
theorem flowingTick : Obligations.FlowingTick := by
  intro s t hinv he hs h hstall htaken
  obtain rfl := eq_tick_of_step he h
  obtain ⟨-, -, -, -, hst, -⟩ := tick_memory hs
  have htick := tick_flowing s hs (hst ▸ hstall)
  have hregs : ∀ j, readReg (tick s) j = readReg (backEnd s) j := readReg_of_regs (by simp [htick])
  have hback : (backEnd s).exMem.branchTaken = false := by simpa [htick] using htaken
  obtain ⟨hpc, hnext, hif, hflush⟩ := backEnd_front hback
  have hnext4 : s.nextPc = s.pc + 4#32 := hinv.nextPcFollows he
  have hidEx : (tick s).idEx = (idStage (backEnd s)).idEx := by rw [htick]; rfl
  refine ⟨by simp [htick, hpc], by simp [htick, hnext, hnext4], by simp [htick, hnext, hnext4, BitVec.add_assoc],
    by simp [htick], by simp [htick, hflush], fun hv => ?_, fun hv => ?_⟩
  · rw [hidEx, idStage_idEx, hif, if_neg (by simp [hv])]
  · rw [hidEx, idStage_idEx, hif, if_pos hv, hregs, hregs]

end Sys2Proof.Machine
/-! The layouts of R71: the fields of a word laid out from fields, and a word as the layout of its own fields. -/

namespace Sys2Proof

/-! Bit fields. -/

/-- A bit field of a bit field. -/
theorem extractLsb'_extractLsb' {n : Nat} (x : BitVec n) {start len start' len' : Nat} (h : start + len ≤ len') :
    (x.extractLsb' start' len').extractLsb' start len = x.extractLsb' (start' + start) len := by
  ext i hi
  have hlt : start + i < len' := by omega
  simp only [BitVec.getElem_extractLsb', BitVec.getLsbD_extractLsb', hlt, decide_true, Bool.true_and, Nat.add_assoc]

/-- Two neighbouring bit fields, joined. -/
theorem extractLsb'_join {n : Nat} (x : BitVec n) (lo k m : Nat) :
    x.extractLsb' (lo + k) m ++ x.extractLsb' lo k = x.extractLsb' lo (m + k) :=
  BitVec.extractLsb'_append_extractLsb'_eq_extractLsb' rfl

theorem extractLsb'_zero_of_even {n : Nat} {x : BitVec n} (h : x.getLsbD 0 = false) : x.extractLsb' 0 1 = 0#1 := by
  ext i hi
  obtain rfl : i = 0 := by omega
  simpa using h

/-- Bit 30 of a word, which tells SUB, SRA and SRAI apart, is a bit of funct7 (R83). -/
theorem getElem_30 (w : Word) : w[30] = (funct7Of w)[5] := by
  simp [funct7Of]

/-! The fields of a laid out word (R71 to R78). Each layout is one with fewer fields, one of its fields cut up further: I is U
with the upper 20 bits cut up, R is I with the immediate cut up, S and B are R with other names for two fields. -/

@[simp] theorem fieldsOf_encodeU (imm20 : BitVec 20) (rd : RegIdx) (op : BitVec 7) :
    opcodeOf (encodeU imm20 rd op) = op ∧ rdOf (encodeU imm20 rd op) = rd ∧ immUOf (encodeU imm20 rd op) = imm20 :=
  ⟨BitVec.extractLsb'_append_eq_right,
    (BitVec.extractLsb'_append_eq_of_le (by decide)).trans BitVec.extractLsb'_append_eq_right,
    (BitVec.extractLsb'_append_eq_of_le (by decide)).trans BitVec.extractLsb'_append_eq_left⟩

theorem extractLsb'_encodeU (imm20 : BitVec 20) (rd : RegIdx) (op : BitVec 7) {start len : Nat} (h : start + len ≤ 20) :
    (encodeU imm20 rd op).extractLsb' (12 + start) len = imm20.extractLsb' start len := by
  obtain ⟨-, -, himm⟩ := fieldsOf_encodeU imm20 rd op
  rw [← extractLsb'_extractLsb' _ h]
  exact congrArg (BitVec.extractLsb' start len) himm

@[simp] theorem fieldsOf_encodeI (imm : BitVec 12) (rs1 : RegIdx) (f3 : BitVec 3) (rd : RegIdx) (op : BitVec 7) :
    opcodeOf (encodeI imm rs1 f3 rd op) = op ∧ rdOf (encodeI imm rs1 f3 rd op) = rd ∧
    funct3Of (encodeI imm rs1 f3 rd op) = f3 ∧ rs1Of (encodeI imm rs1 f3 rd op) = rs1 ∧
    immIOf (encodeI imm rs1 f3 rd op) = imm := by
  obtain ⟨hop, hrd, -⟩ := fieldsOf_encodeU (imm ++ rs1 ++ f3) rd op
  exact ⟨hop, hrd, (extractLsb'_encodeU _ rd op (start := 0) (by decide)).trans BitVec.extractLsb'_append_eq_right,
    (extractLsb'_encodeU _ rd op (start := 3) (by decide)).trans
      ((BitVec.extractLsb'_append_eq_of_le (by decide)).trans BitVec.extractLsb'_append_eq_right),
    (extractLsb'_encodeU _ rd op (start := 8) (by decide)).trans
      ((BitVec.extractLsb'_append_eq_of_le (by decide)).trans BitVec.extractLsb'_append_eq_left)⟩

@[simp] theorem fieldsOf_encodeR (f7 : BitVec 7) (rs2 rs1 : RegIdx) (f3 : BitVec 3) (rd : RegIdx) (op : BitVec 7) :
    opcodeOf (encodeR f7 rs2 rs1 f3 rd op) = op ∧ rdOf (encodeR f7 rs2 rs1 f3 rd op) = rd ∧
    funct3Of (encodeR f7 rs2 rs1 f3 rd op) = f3 ∧ rs1Of (encodeR f7 rs2 rs1 f3 rd op) = rs1 ∧
    rs2Of (encodeR f7 rs2 rs1 f3 rd op) = rs2 ∧ funct7Of (encodeR f7 rs2 rs1 f3 rd op) = f7 := by
  obtain ⟨hop, hrd, hf3, hrs1, himm⟩ := fieldsOf_encodeI (f7 ++ rs2) rs1 f3 rd op
  exact ⟨hop, hrd, hf3, hrs1,
    (extractLsb'_extractLsb' _ (start := 0) (by decide)).symm.trans
      ((congrArg (BitVec.extractLsb' 0 5) himm).trans BitVec.extractLsb'_append_eq_right),
    (extractLsb'_extractLsb' _ (start := 5) (by decide)).symm.trans
      ((congrArg (BitVec.extractLsb' 5 7) himm).trans BitVec.extractLsb'_append_eq_left)⟩

@[simp] theorem fieldsOf_encodeS (imm : BitVec 12) (rs2 rs1 : RegIdx) (f3 : BitVec 3) (op : BitVec 7) :
    opcodeOf (encodeS imm rs2 rs1 f3 op) = op ∧ funct3Of (encodeS imm rs2 rs1 f3 op) = f3 ∧
    rs1Of (encodeS imm rs2 rs1 f3 op) = rs1 ∧ rs2Of (encodeS imm rs2 rs1 f3 op) = rs2 ∧
    immSOf (encodeS imm rs2 rs1 f3 op) = imm := by
  obtain ⟨hop, hrd, hf3, hrs1, hrs2, hf7⟩ := fieldsOf_encodeR (imm.extractLsb' 5 7) rs2 rs1 f3 (imm.extractLsb' 0 5) op
  exact ⟨hop, hf3, hrs1, hrs2, (congrArg₂ (· ++ ·) hf7 hrd).trans BitVec.extractLsb'_append_extractLsb'⟩

theorem encodeB_eq_encodeR (off : BitVec 13) (rs2 rs1 : RegIdx) (f3 : BitVec 3) (op : BitVec 7) :
    encodeB off rs2 rs1 f3 op = encodeR (off.extractLsb' 12 1 ++ off.extractLsb' 5 6) rs2 rs1 f3
      (off.extractLsb' 1 4 ++ off.extractLsb' 11 1) op :=
  congrArg (· ++ op) BitVec.append_assoc

@[simp] theorem fieldsOf_encodeB (off : BitVec 13) (rs2 rs1 : RegIdx) (f3 : BitVec 3) (op : BitVec 7) :
    opcodeOf (encodeB off rs2 rs1 f3 op) = op ∧ funct3Of (encodeB off rs2 rs1 f3 op) = f3 ∧
    rs1Of (encodeB off rs2 rs1 f3 op) = rs1 ∧ rs2Of (encodeB off rs2 rs1 f3 op) = rs2 := by
  simp [encodeB_eq_encodeR]

theorem immBOf_eq (w : Word) : immBOf w = (funct7Of w).extractLsb' 6 1 ++ (rdOf w).extractLsb' 0 1 ++
    (funct7Of w).extractLsb' 0 6 ++ (rdOf w).extractLsb' 1 4 ++ 0#1 := by
  simp only [immBOf, funct7Of, rdOf, extractLsb'_extractLsb', Nat.reduceAdd, Nat.reduceLeDiff, le_refl]

/-- An even branch offset is read back from its scattered bits (R75). -/
theorem immBOf_encodeB {off : BitVec 13} (h : evenOffset13 off = true) (rs2 rs1 : RegIdx) (f3 : BitVec 3) (op : BitVec 7) :
    immBOf (encodeB off rs2 rs1 f3 op) = off := by
  obtain ⟨-, hrd, -, -, -, hf7⟩ := fieldsOf_encodeR (off.extractLsb' 12 1 ++ off.extractLsb' 5 6) rs2 rs1 f3
    (off.extractLsb' 1 4 ++ off.extractLsb' 11 1) op
  have h0 : off.extractLsb' 0 1 = 0#1 := extractLsb'_zero_of_even (by simpa [evenOffset13] using h)
  rw [immBOf_eq, encodeB_eq_encodeR, hrd, hf7, ← h0, BitVec.extractLsb'_append_eq_left, BitVec.extractLsb'_append_eq_right,
    BitVec.extractLsb'_append_eq_left, BitVec.extractLsb'_append_eq_right, extractLsb'_join off 11 1 1,
    extractLsb'_join off 5 6 2, extractLsb'_join off 1 4 8]
  exact (extractLsb'_join off 0 1 12).trans BitVec.extractLsb'_eq_self

@[simp] theorem fieldsOf_encodeJ (off : BitVec 21) (rd : RegIdx) (op : BitVec 7) :
    opcodeOf (encodeJ off rd op) = op ∧ rdOf (encodeJ off rd op) = rd ∧
    immUOf (encodeJ off rd op) =
      off.extractLsb' 20 1 ++ off.extractLsb' 1 10 ++ off.extractLsb' 11 1 ++ off.extractLsb' 12 8 :=
  fieldsOf_encodeU _ rd op

theorem immJOf_eq (w : Word) : immJOf w = (immUOf w).extractLsb' 19 1 ++ (immUOf w).extractLsb' 0 8 ++
    (immUOf w).extractLsb' 8 1 ++ (immUOf w).extractLsb' 9 10 ++ 0#1 := by
  simp only [immJOf, immUOf, extractLsb'_extractLsb', Nat.reduceAdd, Nat.reduceLeDiff]

/-- An even jump offset is read back from its scattered bits (R77). -/
theorem immJOf_encodeJ {off : BitVec 21} (h : evenOffset21 off = true) (rd : RegIdx) (op : BitVec 7) :
    immJOf (encodeJ off rd op) = off := by
  obtain ⟨-, -, himm⟩ := fieldsOf_encodeJ off rd op
  have h0 : off.extractLsb' 0 1 = 0#1 := extractLsb'_zero_of_even (by simpa [evenOffset21] using h)
  rw [immJOf_eq, himm, ← h0, BitVec.extractLsb'_append_eq_right,
    BitVec.extractLsb'_append_eq_of_le (start := 19) (by decide), BitVec.extractLsb'_append_eq_of_le (start := 8) (by decide),
    BitVec.extractLsb'_append_eq_of_le (start := 9) (by decide), BitVec.extractLsb'_append_eq_right,
    BitVec.extractLsb'_append_eq_of_le (start := 19 - 8) (by decide),
    BitVec.extractLsb'_append_eq_of_le (start := 9 - 8) (by decide), BitVec.extractLsb'_append_eq_left,
    BitVec.extractLsb'_append_eq_right, extractLsb'_join off 12 8 1, extractLsb'_join off 11 1 9,
    extractLsb'_join off 1 10 10]
  exact (extractLsb'_join off 0 1 20).trans BitVec.extractLsb'_eq_self

/-! A word is the layout of its own fields. -/

/-- The bits of a branch offset, each where R75 takes it from. -/
theorem immBOf_bits (w : Word) : (immBOf w).extractLsb' 12 1 = w.extractLsb' 31 1 ∧
    (immBOf w).extractLsb' 11 1 = w.extractLsb' 7 1 ∧ (immBOf w).extractLsb' 5 6 = w.extractLsb' 25 6 ∧
    (immBOf w).extractLsb' 1 4 = w.extractLsb' 8 4 := by
  unfold immBOf
  refine ⟨?_, ?_, ?_, ?_⟩
  · rw [BitVec.extractLsb'_append_eq_of_le (by decide), BitVec.extractLsb'_append_eq_of_le (by decide),
      BitVec.extractLsb'_append_eq_of_le (by decide), BitVec.extractLsb'_append_eq_left]
  · rw [BitVec.extractLsb'_append_eq_of_le (by decide), BitVec.extractLsb'_append_eq_of_le (by decide),
      BitVec.extractLsb'_append_eq_of_le (by decide), BitVec.extractLsb'_append_eq_right]
  · rw [BitVec.extractLsb'_append_eq_of_le (by decide), BitVec.extractLsb'_append_eq_of_le (by decide),
      BitVec.extractLsb'_append_eq_right]
  · rw [BitVec.extractLsb'_append_eq_of_le (by decide), BitVec.extractLsb'_append_eq_right]

/-- The bits of a jump offset, each where R77 takes it from. -/
theorem immJOf_bits (w : Word) : (immJOf w).extractLsb' 20 1 = w.extractLsb' 31 1 ∧
    (immJOf w).extractLsb' 12 8 = w.extractLsb' 12 8 ∧ (immJOf w).extractLsb' 11 1 = w.extractLsb' 20 1 ∧
    (immJOf w).extractLsb' 1 10 = w.extractLsb' 21 10 := by
  unfold immJOf
  refine ⟨?_, ?_, ?_, ?_⟩
  · rw [BitVec.extractLsb'_append_eq_of_le (by decide), BitVec.extractLsb'_append_eq_of_le (by decide),
      BitVec.extractLsb'_append_eq_of_le (by decide), BitVec.extractLsb'_append_eq_left]
  · rw [BitVec.extractLsb'_append_eq_of_le (by decide), BitVec.extractLsb'_append_eq_of_le (by decide),
      BitVec.extractLsb'_append_eq_of_le (by decide), BitVec.extractLsb'_append_eq_right]
  · rw [BitVec.extractLsb'_append_eq_of_le (by decide), BitVec.extractLsb'_append_eq_of_le (by decide),
      BitVec.extractLsb'_append_eq_right]
  · rw [BitVec.extractLsb'_append_eq_of_le (by decide), BitVec.extractLsb'_append_eq_right]

section

variable {w : Word} {op : BitVec 7} (hop : opcodeOf w = op)
include hop

theorem encodeU_fieldsOf : encodeU (immUOf w) (rdOf w) op = w := by
  subst hop
  exact (congrArg (· ++ opcodeOf w) (extractLsb'_join w 7 5 20)).trans
    ((extractLsb'_join w 0 7 25).trans BitVec.extractLsb'_eq_self)

theorem encodeJ_fieldsOf : encodeJ (immJOf w) (rdOf w) op = w := by
  obtain ⟨h20, h12, h11, h1⟩ := immJOf_bits w
  have himm : (immJOf w).extractLsb' 20 1 ++ (immJOf w).extractLsb' 1 10 ++ (immJOf w).extractLsb' 11 1 ++
      (immJOf w).extractLsb' 12 8 = immUOf w := by
    rw [h20, h1, h11, h12, extractLsb'_join w 21 10 1, extractLsb'_join w 20 1 11]
    exact extractLsb'_join w 12 8 12
  exact (congrArg (encodeU · (rdOf w) op) himm).trans (encodeU_fieldsOf hop)

theorem encode_fence_fieldsOf (hfence : op = 0b0001111#7) : encode (.fence (w.extractLsb' 7 25)) = w := by
  subst hfence
  rw [encode, ← hop]
  exact (extractLsb'_join w 0 7 25).trans BitVec.extractLsb'_eq_self

variable {f3 : BitVec 3} (hf3 : funct3Of w = f3)
include hf3

theorem encodeI_fieldsOf : encodeI (immIOf w) (rs1Of w) f3 (rdOf w) op = w := by
  subst hf3
  have himm : immIOf w ++ rs1Of w ++ funct3Of w = immUOf w :=
    (congrArg (· ++ funct3Of w) (extractLsb'_join w 15 5 12)).trans (extractLsb'_join w 12 3 17)
  exact (congrArg (encodeU · (rdOf w) op) himm).trans (encodeU_fieldsOf hop)

theorem encodeR_fieldsOf {f7 : BitVec 7} (hf7 : funct7Of w = f7) :
    encodeR f7 (rs2Of w) (rs1Of w) f3 (rdOf w) op = w := by
  subst hf7
  exact (congrArg (encodeI · (rs1Of w) f3 (rdOf w) op) (extractLsb'_join w 20 5 7)).trans (encodeI_fieldsOf hop hf3)

theorem encodeS_fieldsOf : encodeS (immSOf w) (rs2Of w) (rs1Of w) f3 op = w := by
  have hf7 : funct7Of w = (immSOf w).extractLsb' 5 7 := BitVec.extractLsb'_append_eq_left.symm
  have hrd : rdOf w = (immSOf w).extractLsb' 0 5 := BitVec.extractLsb'_append_eq_right.symm
  have hR := encodeR_fieldsOf hop hf3 hf7
  rwa [hrd] at hR

theorem encodeB_fieldsOf : encodeB (immBOf w) (rs2Of w) (rs1Of w) f3 op = w := by
  obtain ⟨h12, h11, h5, h1⟩ := immBOf_bits w
  have hf7 : w.extractLsb' 31 1 ++ w.extractLsb' 25 6 = funct7Of w := extractLsb'_join w 25 6 1
  have hrd : w.extractLsb' 8 4 ++ w.extractLsb' 7 1 = rdOf w := extractLsb'_join w 7 1 4
  rw [encodeB_eq_encodeR, h12, h11, h5, h1, hf7, hrd]
  exact encodeR_fieldsOf hop hf3 rfl

end

end Sys2Proof
/-! The decoder: decoding an encoded instruction, the decoder by opcode, and the operands of a decoded instruction. -/

namespace Sys2Proof

open Sys2Proof.Machine

/-! Decoding an encoded instruction. -/

theorem decodeWord_fence {w : Word} (h : opcodeOf w = 0b0001111#7) : decodeWord w = .fence (w.extractLsb' 7 25) := by
  simp [decodeWord, h]

theorem decodeWord_of_isUnknownWord {w : Word} (h : isUnknownWord w = true) : decodeWord w = .unknown w := by
  rcases (isUnknownWord_iff w).1 h with hop | ⟨hop, hf3⟩ | ⟨hop, hf3⟩ | ⟨hop, hf3⟩ | ⟨hop, h0, h1⟩
  · simp only [tableOpcodes, List.mem_cons, not_or] at hop
    simp [decodeWord, hop]
  · simp only [branchFunct3Unused, List.mem_cons, List.not_mem_nil, or_false] at hf3
    rcases hf3 with hf3 | hf3 <;> simp [decodeWord, decodeBranch, hop, hf3]
  · simp only [loadFunct3Unused, List.mem_cons, List.not_mem_nil, or_false] at hf3
    rcases hf3 with hf3 | hf3 | hf3 <;> simp [decodeWord, decodeLoad, hop, hf3]
  · simp only [storeFunct3Unused, List.mem_cons, List.not_mem_nil, or_false] at hf3
    rcases hf3 with hf3 | hf3 | hf3 | hf3 | hf3 <;> simp [decodeWord, decodeStore, hop, hf3]
  · simp [decodeWord, decodeSystem, hop, h0, h1]

/-- The decoder reads back every field that the encoder lays out (R82, R89): the opcode and the function fields select the
constructor, and the other fields are its operands. -/
theorem decodeWord_encode {i : Instr} (h : i.wellFormed = true) : decodeWord (encode i) = i := by
  cases i with
  | lui | auipc | jalr => simp [encode, decodeWord]
  | jal => simp [encode, decodeWord, immJOf_encodeJ h]
  | beq | bne | blt | bge | bltu | bgeu => simp [encode, decodeWord, decodeBranch, immBOf_encodeB h]
  | lb | lh | lw | lbu | lhu => simp [encode, decodeWord, decodeLoad]
  | sb | sh | sw => simp [encode, decodeWord, decodeStore]
  | addi | slti | sltiu | xori | ori | andi => simp [encode, decodeWord, decodeOpImm]
  | slli | srli | srai => simp [encode, decodeWord, decodeOpImm, getElem_30]
  | add | sub | sll | slt | sltu | xor | srl | sra | or | and => simp [encode, decodeWord, decodeOp, getElem_30]
  | mul | mulh | mulhsu | mulhu | div | divu | rem | remu => simp [encode, decodeWord, decodeOp]
  | ecall | ebreak => decide
  | fence bits =>
    rw [encode, decodeWord_fence BitVec.extractLsb'_append_eq_right]
    exact congrArg Instr.fence BitVec.extractLsb'_append_eq_left
  | unknown w => exact decodeWord_of_isUnknownWord h

/-- The byte decoder decodes the word of the first four bytes (R41, R70). -/
theorem decodeBytes_bytesOfWord (w : Word) (rest : List Byte) :
    decodeBytes (bytesOfWord w ++ rest) = .ok (decodeWord w, rest) :=
  congrArg (fun v => Except.ok (decodeWord v, rest)) (append_bytes w)

/-- Settles O2: the bytes make up the encoded word again, and the decoder inverts the encoder. -/
theorem decodeInvertsEncode : Obligations.DecodeInvertsEncode := by
  intro i rest h
  rw [decodeBytes_bytesOfWord, decodeWord_encode h]

/-- Settles O1: the decoder computes on each of the words. -/
theorem sampleWordsDecode : Obligations.SampleWordsDecode := by
  unfold Obligations.SampleWordsDecode
  decide

/-- Settles O6: the instruction is decoded from the word alone, and `pc` is one field of the record. -/
theorem decodingIgnoresThePc : Obligations.DecodingIgnoresThePc := fun _ _ _ => rfl

/-! The decoder by opcode. -/

/-- What holds of the instruction of each opcode holds of the decoded one (R79, R80). -/
theorem decodeWord_induction {P : Instr → Prop} (w : Word)
    (lui : opcodeOf w = 0b0110111#7 → P (.lui (rdOf w) (immUOf w)))
    (auipc : opcodeOf w = 0b0010111#7 → P (.auipc (rdOf w) (immUOf w)))
    (jal : opcodeOf w = 0b1101111#7 → P (.jal (rdOf w) (immJOf w)))
    (jalr : opcodeOf w = 0b1100111#7 → P (.jalr (rdOf w) (rs1Of w) (immIOf w)))
    (branch : opcodeOf w = 0b1100011#7 → P (decodeBranch w))
    (load : opcodeOf w = 0b0000011#7 → P (decodeLoad w))
    (store : opcodeOf w = 0b0100011#7 → P (decodeStore w))
    (opImm : opcodeOf w = 0b0010011#7 → P (decodeOpImm w))
    (op : opcodeOf w = 0b0110011#7 → P (decodeOp w))
    (system : opcodeOf w = 0b1110011#7 → P (decodeSystem w))
    (fence : opcodeOf w = 0b0001111#7 → P (.fence (w.extractLsb' 7 25)))
    (other : opcodeOf w ∉ tableOpcodes → P (.unknown w)) : P (decodeWord w) :=
  iteInduction lui fun _ => iteInduction auipc fun _ => iteInduction jal fun _ => iteInduction jalr fun _ =>
  iteInduction branch fun _ => iteInduction load fun _ => iteInduction store fun _ => iteInduction opImm fun _ =>
  iteInduction op fun _ => iteInduction system fun _ => iteInduction fence fun _ => other (by simp [tableOpcodes, *])

theorem funct3_cases (f : BitVec 3) :
    f = 0b000#3 ∨ f = 0b001#3 ∨ f = 0b010#3 ∨ f = 0b011#3 ∨ f = 0b100#3 ∨ f = 0b101#3 ∨ f = 0b110#3 ∨ f = 0b111#3 := by
  revert f
  decide

/-! The operands of a decoded instruction. -/

/-- Every operand of the instruction is the field of the word that R72 to R78 name; the two UNKNOWN rows keep the word. -/
def OperandsFrom (w : Word) : Instr → Prop
  | .lui rd imm20 | .auipc rd imm20 => rd = rdOf w ∧ imm20 = immUOf w
  | .jal rd off => rd = rdOf w ∧ off = immJOf w
  | .beq rs1 rs2 off | .bne rs1 rs2 off | .blt rs1 rs2 off | .bge rs1 rs2 off | .bltu rs1 rs2 off | .bgeu rs1 rs2 off =>
    rs1 = rs1Of w ∧ rs2 = rs2Of w ∧ off = immBOf w
  | .jalr rd rs1 imm | .lb rd rs1 imm | .lh rd rs1 imm | .lw rd rs1 imm | .lbu rd rs1 imm | .lhu rd rs1 imm
  | .addi rd rs1 imm | .slti rd rs1 imm | .sltiu rd rs1 imm | .xori rd rs1 imm | .ori rd rs1 imm | .andi rd rs1 imm =>
    rd = rdOf w ∧ rs1 = rs1Of w ∧ imm = immIOf w
  | .sb rs1 rs2 imm | .sh rs1 rs2 imm | .sw rs1 rs2 imm => rs1 = rs1Of w ∧ rs2 = rs2Of w ∧ imm = immSOf w
  | .slli rd rs1 rs2 | .srli rd rs1 rs2 | .srai rd rs1 rs2
  | .add rd rs1 rs2 | .sub rd rs1 rs2 | .sll rd rs1 rs2 | .slt rd rs1 rs2 | .sltu rd rs1 rs2 | .xor rd rs1 rs2
  | .srl rd rs1 rs2 | .sra rd rs1 rs2 | .or rd rs1 rs2 | .and rd rs1 rs2
  | .mul rd rs1 rs2 | .mulh rd rs1 rs2 | .mulhsu rd rs1 rs2 | .mulhu rd rs1 rs2
  | .div rd rs1 rs2 | .divu rd rs1 rs2 | .rem rd rs1 rs2 | .remu rd rs1 rs2 =>
    rd = rdOf w ∧ rs1 = rs1Of w ∧ rs2 = rs2Of w
  | .ecall | .ebreak => True
  | .fence bits => encode (.fence bits) = w
  | .unknown v => v = w

theorem operandsFrom_ite {w : Word} {c : Prop} [Decidable c] {i j : Instr} (hi : OperandsFrom w i)
    (hj : OperandsFrom w j) : OperandsFrom w (if c then i else j) :=
  iteInduction (fun _ => hi) (fun _ => hj)

section

variable (w : Word)

theorem operandsFrom_decodeBranch : OperandsFrom w (decodeBranch w) := by
  unfold decodeBranch
  repeat' apply operandsFrom_ite
  all_goals simp [OperandsFrom]

theorem operandsFrom_decodeLoad : OperandsFrom w (decodeLoad w) := by
  unfold decodeLoad
  repeat' apply operandsFrom_ite
  all_goals simp [OperandsFrom]

theorem operandsFrom_decodeStore : OperandsFrom w (decodeStore w) := by
  unfold decodeStore
  repeat' apply operandsFrom_ite
  all_goals simp [OperandsFrom]

theorem operandsFrom_decodeOpImm : OperandsFrom w (decodeOpImm w) := by
  unfold decodeOpImm
  repeat' apply operandsFrom_ite
  all_goals simp [OperandsFrom]

theorem operandsFrom_decodeOp : OperandsFrom w (decodeOp w) := by
  unfold decodeOp
  repeat' apply operandsFrom_ite
  all_goals simp [OperandsFrom]

theorem operandsFrom_decodeSystem : OperandsFrom w (decodeSystem w) :=
  operandsFrom_ite trivial (operandsFrom_ite trivial rfl)

/-- The decoder takes every operand from its field. -/
theorem operandsFrom_decodeWord : OperandsFrom w (decodeWord w) :=
  decodeWord_induction w (fun _ => ⟨rfl, rfl⟩) (fun _ => ⟨rfl, rfl⟩) (fun _ => ⟨rfl, rfl⟩) (fun _ => ⟨rfl, rfl, rfl⟩)
    (fun _ => operandsFrom_decodeBranch w) (fun _ => operandsFrom_decodeLoad w) (fun _ => operandsFrom_decodeStore w)
    (fun _ => operandsFrom_decodeOpImm w) (fun _ => operandsFrom_decodeOp w) (fun _ => operandsFrom_decodeSystem w)
    (fun h => encode_fence_fieldsOf h rfl) (fun _ => rfl)

end

/-! The words of kind UNKNOWN. -/

/-- The instructions of kind UNKNOWN are the two that keep their word (R84, R234). -/
theorem OperandsFrom.unknown {w : Word} {i : Instr} (hfrom : OperandsFrom w i) (hwf : i.wellFormed = true)
    (hk : i.kind = .unknown) : isUnknownWord w = true ∨ opcodeOf w = 0b0001111#7 := by
  match i, hk with
  | .unknown v, _ =>
    obtain rfl : v = w := hfrom
    exact .inl hwf
  | .fence bits, _ =>
    obtain rfl : encode (.fence bits) = w := hfrom
    exact .inr BitVec.extractLsb'_append_eq_right

theorem kind_eq_unknown_iff (w : Word) :
    (decodeWord w).kind = .unknown ↔ isUnknownWord w = true ∨ opcodeOf w = 0b0001111#7 := by
  refine ⟨(operandsFrom_decodeWord w).unknown (wellFormed_decodeWord w), ?_⟩
  rintro (h | h)
  · rw [decodeWord_of_isUnknownWord h]
    rfl
  · rw [decodeWord_fence h]
    rfl

theorem decodeWord_eq_unknown_iff (w : Word) : decodeWord w = .unknown w ↔ isUnknownWord w = true := by
  refine ⟨fun h => ?_, decodeWord_of_isUnknownWord⟩
  have hwf := wellFormed_decodeWord w
  rwa [h] at hwf

/-- Settles O5: the UNKNOWN words are those that no row matches and the MISC-MEM words, which the catch-all row leaves out. -/
theorem unknownWordsAreExactlyThese : Obligations.UnknownWordsAreExactlyThese := by
  intro w
  rw [decodeWord_eq_unknown_iff, kind_eq_unknown_iff, isUnknownWord_iff]
  refine ⟨?_, ?_, wellFormed_decodeWord w⟩
  · by_cases hfence : opcodeOf w = 0b0001111#7
    · simp [hfence]
    · simp [hfence, tableOpcodes, branchFunct3Unused, loadFunct3Unused, storeFunct3Unused]
  · by_cases hfence : opcodeOf w = 0b0001111#7
    · simp [hfence, tableOpcodes]
    · simp [hfence]

end Sys2Proof
/-! The opcode table: what its tests say field by field, the table decoder, and the canonical words. -/

namespace Sys2Proof

/-! The tests `w &&& mask = match` of the rows, field by field (R82, R83). -/

/-- The word with the `len` bits from `start` on set. -/
def fieldMask (start len : Nat) : Word := (BitVec.allOnes len).setWidth 32 <<< start

theorem getElem_fieldMask (start len : Nat) {i : Nat} (hi : i < 32) :
    (fieldMask start len)[i] = (decide (start ≤ i) && decide (i < start + len)) := by
  simp only [fieldMask, BitVec.getElem_shiftLeft, BitVec.getElem_setWidth, BitVec.getLsbD_allOnes]
  grind

/-- Two words agree under the mask of a bit field where they have the same field. -/
theorem and_fieldMask_eq_iff (w m : Word) {start len : Nat} (h : start + len ≤ 32) :
    w &&& fieldMask start len = m &&& fieldMask start len ↔ w.extractLsb' start len = m.extractLsb' start len := by
  constructor
  · intro heq
    ext i hi
    have hlt : start + i < 32 := by omega
    have hbit : (w &&& fieldMask start len)[start + i] = (m &&& fieldMask start len)[start + i] := by rw [heq]
    simpa [getElem_fieldMask, hi, BitVec.getLsbD_eq_getElem hlt] using hbit
  · intro heq
    ext i hi
    have hbit := congrArg (·.getLsbD (i - start)) heq
    simp only [BitVec.getLsbD_extractLsb', BitVec.getElem_and, getElem_fieldMask] at hbit ⊢
    grind

/-- Two words agree under two masks together where they agree under each. -/
theorem and_or_eq_iff (w v m n : Word) :
    w &&& (m ||| n) = v &&& (m ||| n) ↔ w &&& m = v &&& m ∧ w &&& n = v &&& n := by
  have hm : ∀ u : Word, u &&& (m ||| n) &&& m = u &&& m := fun u => by ext; simp; grind
  have hn : ∀ u : Word, u &&& (m ||| n) &&& n = u &&& n := fun u => by ext; simp; grind
  refine ⟨fun h => ⟨?_, ?_⟩, fun ⟨h, h'⟩ => ?_⟩
  · rw [← hm, h, hm]
  · rw [← hn, h, hn]
  · rw [BitVec.and_or_distrib_left, BitVec.and_or_distrib_left, h, h']

section

variable {w m : Word}

@[simp] theorem and_opcodeMask_eq_iff (h : m &&& 0x0000007F#32 = m) :
    w &&& 0x0000007F#32 = m ↔ opcodeOf w = opcodeOf m := by
  conv_lhs => rw [← h]
  exact and_fieldMask_eq_iff w m (start := 0) (len := 7) (by decide)

@[simp] theorem and_funct3Mask_eq_iff (h : m &&& 0x0000707F#32 = m) :
    w &&& 0x0000707F#32 = m ↔ opcodeOf w = opcodeOf m ∧ funct3Of w = funct3Of m := by
  conv_lhs => rw [← h]
  rw [show 0x0000707F#32 = fieldMask 0 7 ||| fieldMask 12 3 by decide, and_or_eq_iff,
    and_fieldMask_eq_iff _ _ (by decide), and_fieldMask_eq_iff _ _ (by decide)]
  rfl

@[simp] theorem and_funct7Mask_eq_iff (h : m &&& 0xFE00707F#32 = m) :
    w &&& 0xFE00707F#32 = m ↔ opcodeOf w = opcodeOf m ∧ funct3Of w = funct3Of m ∧ funct7Of w = funct7Of m := by
  conv_lhs => rw [← h]
  rw [show 0xFE00707F#32 = fieldMask 0 7 ||| (fieldMask 12 3 ||| fieldMask 25 7) by decide, and_or_eq_iff, and_or_eq_iff,
    and_fieldMask_eq_iff _ _ (by decide), and_fieldMask_eq_iff _ _ (by decide), and_fieldMask_eq_iff _ _ (by decide)]
  rfl

@[simp] theorem and_bit30Mask_eq_iff (h : m &&& 0x4000707F#32 = m) :
    w &&& 0x4000707F#32 = m ↔ opcodeOf w = opcodeOf m ∧ funct3Of w = funct3Of m ∧ w[30] = m[30] := by
  have hbit : w.extractLsb' 30 1 = m.extractLsb' 30 1 ↔ w[30] = m[30] := by simp [BitVec.eq_of_getElem_eq_iff]
  conv_lhs => rw [← h]
  rw [show 0x4000707F#32 = fieldMask 0 7 ||| (fieldMask 12 3 ||| fieldMask 30 1) by decide, and_or_eq_iff, and_or_eq_iff,
    and_fieldMask_eq_iff _ _ (by decide), and_fieldMask_eq_iff _ _ (by decide), and_fieldMask_eq_iff _ _ (by decide), hbit]
  rfl

@[simp] theorem and_immIMask_eq_iff (h : m &&& 0xFFF0007F#32 = m) :
    w &&& 0xFFF0007F#32 = m ↔ opcodeOf w = opcodeOf m ∧ immIOf w = immIOf m := by
  conv_lhs => rw [← h]
  rw [show 0xFFF0007F#32 = fieldMask 0 7 ||| fieldMask 20 12 by decide, and_or_eq_iff,
    and_fieldMask_eq_iff _ _ (by decide), and_fieldMask_eq_iff _ _ (by decide)]
  rfl

/-- The mask of the whole word; the opcode is named beside it, as in the other tests. -/
@[simp] theorem and_wordMask_eq_iff : w &&& 0xFFFFFFFF#32 = m ↔ opcodeOf w = opcodeOf m ∧ w = m := by
  rw [show 0xFFFFFFFF#32 = BitVec.allOnes 32 by decide, BitVec.and_allOnes]
  exact ⟨fun h => ⟨congrArg opcodeOf h, h⟩, fun ⟨_, h⟩ => h⟩

end

/-! The fields of a literal word. -/

@[simp] theorem opcodeOf_ofNat (n : Nat) : opcodeOf (BitVec.ofNat 32 n) = BitVec.ofNat 7 n :=
  BitVec.eq_of_toNat_eq (by simp [opcodeOf])

@[simp] theorem funct3Of_ofNat (n : Nat) : funct3Of (BitVec.ofNat 32 n) = BitVec.ofNat 3 (n >>> 12) :=
  BitVec.eq_of_toNat_eq (by simp [funct3Of, Nat.shiftRight_eq_div_pow]; omega)

@[simp] theorem funct7Of_ofNat (n : Nat) : funct7Of (BitVec.ofNat 32 n) = BitVec.ofNat 7 (n >>> 25) :=
  BitVec.eq_of_toNat_eq (by simp [funct7Of, Nat.shiftRight_eq_div_pow]; omega)

@[simp] theorem immIOf_ofNat (n : Nat) : immIOf (BitVec.ofNat 32 n) = BitVec.ofNat 12 (n >>> 20) :=
  BitVec.eq_of_toNat_eq (by simp [immIOf, Nat.shiftRight_eq_div_pow]; omega)

/-! The table decoder (R90), as a chain of tests. -/

/-- The kind of the first of the rows whose tested bits match, else UNKNOWN. -/
def firstKind : List OpcodeRow → Word → Kind
  | [], _ => .unknown
  | r :: rows, w => if w &&& r.decoderMask = r.decoderMatch then r.kind else firstKind rows w

@[simp] theorem firstKind_nil (w : Word) : firstKind [] w = .unknown := rfl

@[simp] theorem firstKind_cons (r : OpcodeRow) (rows : List OpcodeRow) (w : Word) :
    firstKind (r :: rows) w = if w &&& r.decoderMask = r.decoderMatch then r.kind else firstKind rows w := rfl

theorem tableKind_eq_firstKind (w : Word) : tableKind w = firstKind opcodeRows w := by
  unfold tableKind
  induction opcodeRows with
  | nil => rfl
  | cons r rows ih =>
    rw [firstKind_cons, ← ih, List.find?_cons]
    by_cases h : w &&& r.decoderMask = r.decoderMatch
    · simp [h]
    · simp [h, beq_eq_false_iff_ne.2 h]

section

variable {w : Word}

theorem tableKind_of_branch (h : opcodeOf w = 0b1100011#7) : tableKind w = (decodeBranch w).kind := by
  simp only [decodeBranch, apply_ite Instr.kind]
  simp [tableKind_eq_firstKind, opcodeRows, opcodeRowsFirst, opcodeRowsSecond, h, Instr.kind]

theorem tableKind_of_load (h : opcodeOf w = 0b0000011#7) : tableKind w = (decodeLoad w).kind := by
  simp only [decodeLoad, apply_ite Instr.kind]
  simp [tableKind_eq_firstKind, opcodeRows, opcodeRowsFirst, opcodeRowsSecond, h, Instr.kind]

theorem tableKind_of_store (h : opcodeOf w = 0b0100011#7) : tableKind w = (decodeStore w).kind := by
  simp only [decodeStore, apply_ite Instr.kind]
  simp [tableKind_eq_firstKind, opcodeRows, opcodeRowsFirst, opcodeRowsSecond, h, Instr.kind]

/-- For OP-IMM the table and the decoder test funct3 and bit 30, in a different order. -/
theorem tableKind_of_opImm (h : opcodeOf w = 0b0010011#7) : tableKind w = (decodeOpImm w).kind := by
  simp only [decodeOpImm, apply_ite Instr.kind]
  simp [tableKind_eq_firstKind, opcodeRows, opcodeRowsFirst, opcodeRowsSecond, h, Instr.kind]
  generalize funct3Of w = f3, w[30] = bit30
  decide +revert

/-- For OP they test funct3, bit 30, and whether funct7 is that of the M map. -/
theorem tableKind_of_op (h : opcodeOf w = 0b0110011#7) : tableKind w = (decodeOp w).kind := by
  simp only [decodeOp, apply_ite Instr.kind]
  simp [tableKind_eq_firstKind, opcodeRows, opcodeRowsFirst, opcodeRowsSecond, h, Instr.kind]
  by_cases h7 : funct7Of w = 0b0000001#7
  all_goals
    simp only [h7, and_true, and_false, if_true, if_false]
    generalize funct3Of w = f3, w[30] = bit30
    decide +revert

theorem tableKind_of_system (h : opcodeOf w = 0b1110011#7) : tableKind w = (decodeSystem w).kind := by
  simp only [decodeSystem, apply_ite Instr.kind]
  simp [tableKind_eq_firstKind, opcodeRows, opcodeRowsFirst, opcodeRowsSecond, h, Instr.kind]

theorem tableKind_of_other (h : opcodeOf w ∉ tableOpcodes) : tableKind w = .unknown := by
  simp only [tableOpcodes, List.mem_cons, not_or] at h
  simp [tableKind_eq_firstKind, opcodeRows, opcodeRowsFirst, opcodeRowsSecond, h]

end

/-- Settles O4: for each opcode the rows that can match test what the decoder tests. -/
theorem tableDecoderAgrees : Obligations.TableDecoderAgrees := by
  intro w
  refine decodeWord_induction (P := fun i => tableKind w = i.kind) w (fun h => ?_) (fun h => ?_) (fun h => ?_) (fun h => ?_)
    tableKind_of_branch tableKind_of_load tableKind_of_store tableKind_of_opImm tableKind_of_op tableKind_of_system
    (fun h => ?_) tableKind_of_other
  all_goals simp [tableKind_eq_firstKind, opcodeRows, opcodeRowsFirst, opcodeRowsSecond, h, Instr.kind]

/-! The canonical words (R82). -/

section

variable {w : Word}

/-- The canonical words of an opcode, by their function fields (R82). -/
theorem isCanonical_jalr_iff (h : opcodeOf w = 0b1100111#7) : isCanonical w = true ↔ funct3Of w = 0b000#3 := by
  simp [isCanonical, opcodeRows, opcodeRowsFirst, opcodeRowsSecond, h]

theorem isCanonical_branch_iff (h : opcodeOf w = 0b1100011#7) :
    isCanonical w = true ↔ funct3Of w ∈ [0b000#3, 0b001#3, 0b100#3, 0b101#3, 0b110#3, 0b111#3] := by
  simp [isCanonical, opcodeRows, opcodeRowsFirst, opcodeRowsSecond, h]

theorem isCanonical_load_iff (h : opcodeOf w = 0b0000011#7) :
    isCanonical w = true ↔ funct3Of w ∈ [0b000#3, 0b001#3, 0b010#3, 0b100#3, 0b101#3] := by
  simp [isCanonical, opcodeRows, opcodeRowsFirst, opcodeRowsSecond, h]

theorem isCanonical_store_iff (h : opcodeOf w = 0b0100011#7) :
    isCanonical w = true ↔ funct3Of w ∈ [0b000#3, 0b001#3, 0b010#3] := by
  simp [isCanonical, opcodeRows, opcodeRowsFirst, opcodeRowsSecond, h]

theorem isCanonical_opImm_iff (h : opcodeOf w = 0b0010011#7) :
    isCanonical w = true ↔
      funct3Of w ∈ [0b000#3, 0b010#3, 0b011#3, 0b100#3, 0b110#3, 0b111#3] ∨
      (funct3Of w = 0b001#3 ∧ funct7Of w = 0b0000000#7) ∨ (funct3Of w = 0b101#3 ∧ funct7Of w = 0b0000000#7) ∨
      (funct3Of w = 0b101#3 ∧ funct7Of w = 0b0100000#7) := by
  simp [isCanonical, opcodeRows, opcodeRowsFirst, opcodeRowsSecond, h, or_assoc]

theorem isCanonical_op_iff (h : opcodeOf w = 0b0110011#7) :
    isCanonical w = true ↔ funct7Of w = 0b0000001#7 ∨ funct7Of w = 0b0000000#7 ∨
      ((funct3Of w = 0b000#3 ∨ funct3Of w = 0b101#3) ∧ funct7Of w = 0b0100000#7) := by
  rcases funct3_cases (funct3Of w) with hf | hf | hf | hf | hf | hf | hf | hf <;>
    simp [isCanonical, opcodeRows, opcodeRowsFirst, opcodeRowsSecond, h, hf]

theorem isCanonical_system_iff (h : opcodeOf w = 0b1110011#7) :
    isCanonical w = true ↔ w = 0x00000073#32 ∨ w = 0x00100073#32 := by
  simp [isCanonical, opcodeRows, opcodeRowsFirst, opcodeRowsSecond, h]

end

/-- The encoder gives canonical words only. -/
theorem isCanonical_encode {i : Instr} (h : i.kind ≠ .unknown) : isCanonical (encode i) = true := by
  cases i with
  | lui | auipc | jal => simp [isCanonical, opcodeRows, opcodeRowsFirst, opcodeRowsSecond, encode]
  | jalr => simp [encode, isCanonical_jalr_iff]
  | beq | bne | blt | bge | bltu | bgeu => simp [encode, isCanonical_branch_iff]
  | lb | lh | lw | lbu | lhu => simp [encode, isCanonical_load_iff]
  | sb | sh | sw => simp [encode, isCanonical_store_iff]
  | addi | slti | sltiu | xori | ori | andi | slli | srli | srai => simp [encode, isCanonical_opImm_iff]
  | add | sub | sll | slt | sltu | xor | srl | sra | or | and => simp [encode, isCanonical_op_iff]
  | mul | mulh | mulhsu | mulhu | div | divu | rem | remu => simp [encode, isCanonical_op_iff]
  | ecall | ebreak => simp [encode, isCanonical_system_iff]
  | fence | unknown => exact absurd rfl h

section

variable {w : Word} (hc : isCanonical w = true)
include hc

theorem encode_decodeOpImm (h : opcodeOf w = 0b0010011#7) : encode (decodeOpImm w) = w := by
  rcases (isCanonical_opImm_iff h).1 hc with hf | ⟨hf, h7⟩ | ⟨hf, h7⟩ | ⟨hf, h7⟩
  · simp only [List.mem_cons, List.not_mem_nil, or_false] at hf
    rcases hf with hf | hf | hf | hf | hf | hf <;> simp [decodeOpImm, encode, hf, encodeI_fieldsOf h hf]
  all_goals simp [decodeOpImm, encode, getElem_30, hf, h7, encodeR_fieldsOf h hf h7]

theorem encode_decodeOp (h : opcodeOf w = 0b0110011#7) : encode (decodeOp w) = w := by
  rcases (isCanonical_op_iff h).1 hc with h7 | h7 | ⟨hf | hf, h7⟩
  · rcases funct3_cases (funct3Of w) with hf | hf | hf | hf | hf | hf | hf | hf <;>
      simp [decodeOp, encode, hf, h7, encodeR_fieldsOf h hf h7]
  · rcases funct3_cases (funct3Of w) with hf | hf | hf | hf | hf | hf | hf | hf <;>
      simp [decodeOp, encode, getElem_30, hf, h7, encodeR_fieldsOf h hf h7]
  all_goals simp [decodeOp, encode, getElem_30, hf, h7, encodeR_fieldsOf h hf h7]

theorem encode_decodeSystem (h : opcodeOf w = 0b1110011#7) : encode (decodeSystem w) = w := by
  rcases (isCanonical_system_iff h).1 hc with rfl | rfl <;> decide

end

section

variable {w : Word}

theorem encode_ite {c : Prop} [Decidable c] {i j : Instr} (hi : c → encode i = w) (hj : ¬ c → encode j = w) :
    encode (if c then i else j) = w :=
  iteInduction (motive := fun i => encode i = w) hi hj

/-- For the opcodes whose words have no untested bits, encoding inverts decoding on every word. -/
theorem encode_decodeBranch (h : opcodeOf w = 0b1100011#7) : encode (decodeBranch w) = w :=
  encode_ite (encodeB_fieldsOf h) fun _ => encode_ite (encodeB_fieldsOf h) fun _ =>
  encode_ite (encodeB_fieldsOf h) fun _ => encode_ite (encodeB_fieldsOf h) fun _ =>
  encode_ite (encodeB_fieldsOf h) fun _ => encode_ite (encodeB_fieldsOf h) fun _ => rfl

theorem encode_decodeLoad (h : opcodeOf w = 0b0000011#7) : encode (decodeLoad w) = w :=
  encode_ite (encodeI_fieldsOf h) fun _ => encode_ite (encodeI_fieldsOf h) fun _ =>
  encode_ite (encodeI_fieldsOf h) fun _ => encode_ite (encodeI_fieldsOf h) fun _ =>
  encode_ite (encodeI_fieldsOf h) fun _ => rfl

theorem encode_decodeStore (h : opcodeOf w = 0b0100011#7) : encode (decodeStore w) = w :=
  encode_ite (encodeS_fieldsOf h) fun _ => encode_ite (encodeS_fieldsOf h) fun _ =>
  encode_ite (encodeS_fieldsOf h) fun _ => rfl

theorem encode_decodeWord_of_canonical (hc : isCanonical w = true) : encode (decodeWord w) = w :=
  decodeWord_induction (P := fun i => encode i = w) w encodeU_fieldsOf encodeU_fieldsOf encodeJ_fieldsOf
    (fun h => encodeI_fieldsOf h ((isCanonical_jalr_iff h).1 hc)) encode_decodeBranch encode_decodeLoad encode_decodeStore
    (encode_decodeOpImm hc) (encode_decodeOp hc) (encode_decodeSystem hc) (fun h => encode_fence_fieldsOf h rfl)
    (fun _ => rfl)

end

/-- Settles O3: a canonical word is the layout of the fields it decodes to; any decoded instruction is well-formed, so its
encoding, a canonical word, decodes to it again. -/
theorem canonicalWordsReencode : Obligations.CanonicalWordsReencode :=
  ⟨fun _ => encode_decodeWord_of_canonical, fun w hk =>
    ⟨isCanonical_encode hk, decodeWord_encode (wellFormed_decodeWord w)⟩⟩

end Sys2Proof
/-! The reference step: it always answers, and it is the common datapath of R120. -/

namespace Sys2Proof.Machine

/-- Settles O32: a halted machine stays, a pipeline ticks, and every instruction answers a next state. -/
theorem stepAlwaysAnswers : Obligations.StepAlwaysAnswers := by
  intro s
  cases hh : s.halted with
  | true => exact ⟨s, step_halted s hh⟩
  | false =>
    cases he : s.engine with
    | pipeline => exact ⟨tick s, step_pipeline s he⟩
    | singleCycle =>
      obtain ⟨t, ht, -⟩ := exec_answers (decodeWord (fetchWord s)) (countFetch s)
      exact ⟨t, (step_singleCycle s he hh).trans ht⟩

/-- The decoded record (R81) with any instruction as the one read from the word. -/
def recordOf (w : Word) (pc : Address) (i : Instr) : Decoded :=
  { raw := w, pc := pc, kind := i.kind, format := i.kind.format
    rd := rdOf w, rs1 := rs1Of w, rs2 := rs2Of w, imm := i.imm, aluOp := i.kind.aluOp
    regWrite := i.kind.writesReg, memRead := i.kind.isLoad, memWrite := i.kind.isStore, memToReg := i.kind.isLoad
    branch := i.kind.isBranch, jump := i.kind.isJump, aluSrc := i.kind.usesImm }

theorem decodeRecord_eq_recordOf (w : Word) (pc : Address) : decodeRecord w pc = recordOf w pc (decodeWord w) := rfl

/-- The next `pc` of a conditional branch (R113, R117). -/
theorem nextPcOf_branch {i : Decoded} (hb : i.branch = true) (hk : i.kind.isBranch = true) (pc A B : Word) :
    nextPcOf i pc A B = if branchTaken i.kind A B then pc + i.imm else pc + 4#32 := by
  have hjal : i.kind ≠ .jal := fun h => absurd hk (by simp [h, Kind.isBranch])
  have hjalr : i.kind ≠ .jalr := fun h => absurd hk (by simp [h, Kind.isBranch])
  cases ht : branchTaken i.kind A B <;> simp [nextPcOf, targetOf, takenOf, hb, hjal, hjalr, ht]

/-- With its operands in the raw fields, an instruction is the datapath driven by its control bits: the two compute to one
state but for a branch, whose target the datapath selects in two tests. -/
theorem exec_eq_datapathStep {w : Word} {i : Instr} (h : OperandsFrom w i) (s : State) :
    exec i s = .next (datapathStep (recordOf w s.pc i) s) := by
  cases i with
  | lui | auipc | jal => obtain ⟨rfl, -⟩ := h; rfl
  | jalr | lb | lh | lw | lbu | lhu | sb | sh | sw | addi | slti | sltiu | xori | ori | andi =>
    obtain ⟨rfl, rfl, -⟩ := h; rfl
  | slli | srli | srai | add | sub | sll | slt | sltu | xor | srl | sra | or | and | mul | mulh | mulhsu | mulhu
  | div | divu | rem | remu => obtain ⟨rfl, rfl, rfl⟩ := h; rfl
  | beq | bne | blt | bge | bltu | bgeu =>
    obtain ⟨rfl, rfl, -⟩ := h
    refine congrArg (fun a => Host.Outcome.next (retireAt a s)) ?_
    exact Eq.symm (nextPcOf_branch (by rfl) (by rfl) _ _ _)
  | ecall | ebreak | fence | unknown => rfl

/-- Settles O33: the decoder takes every operand from its raw field. -/
theorem execIsTheCommonDatapath : Obligations.ExecIsTheCommonDatapath := by
  intro w s
  rw [decodeRecord_eq_recordOf]
  exact exec_eq_datapathStep (operandsFrom_decodeWord w) s

end Sys2Proof.Machine
/-! The pipeline as a machine that runs one instruction at a time: what EX does in a tick, what a tick does to the drained
state, and the step of the reference engine that a tick commits. -/

namespace Sys2Proof.Machine

open Sys2Proof.Safety

/-! EX in a tick. -/

/-- The first operand that EX uses in a tick from `s`, and what it adds to `forwards` (R295). -/
def operandA (s : State) : Word × Nat := forwardOperand s.forwarding s.idEx.ins.rs1 s.idEx.rs1Val s.exMem s.memWb

/-- The second operand that EX uses in a tick from `s`, and what it adds to `forwards` (R295). -/
def operandB (s : State) : Word × Nat := forwardOperand s.forwarding s.idEx.ins.rs2 s.idEx.rs2Val s.exMem s.memWb

theorem exStage_exMem (d : IdEx) (e : ExMem) (m : MemWb) (s : State) :
    (exStage d e m s).exMem =
      if d.valid then executed d (forwardOperand s.forwarding d.ins.rs1 d.rs1Val e m).1
        (forwardOperand s.forwarding d.ins.rs2 d.rs2Val e m).1
      else flushedExMem := by
  unfold exStage
  dsimp only
  split
  · split <;> rfl
  · rfl

theorem exStage_forwards (d : IdEx) (e : ExMem) (m : MemWb) (s : State) :
    (exStage d e m s).forwards =
      if d.valid then s.forwards + (forwardOperand s.forwarding d.ins.rs1 d.rs1Val e m).2 +
        (forwardOperand s.forwarding d.ins.rs2 d.rs2Val e m).2
      else s.forwards := by
  unfold exStage
  dsimp only
  split
  · split <;> rfl
  · rfl

/-- No stage after EX changes EX/MEM or the counters of EX (R290). -/
theorem tick_eq_backEnd {s : State} (hs : s.halted = false) :
    (tick s).exMem = (backEnd s).exMem ∧ (tick s).forwards = (backEnd s).forwards ∧
    (tick s).flushes = (backEnd s).flushes := by
  rcases tick_cases s with ⟨hh, _⟩ | ⟨_, h⟩ | ⟨_, h⟩
  · simp [hs] at hh
  · simp [h]
  · simp [h]

/-- A tick changes EX/MEM and `forwards` as EX does, on the operands of the start of the tick (R291, R295). -/
theorem tick_execute {s : State} (hs : s.halted = false) :
    (tick s).exMem = (if s.idEx.valid then executed s.idEx (operandA s).1 (operandB s).1 else flushedExMem) ∧
    (tick s).forwards = if s.idEx.valid then s.forwards + (operandA s).2 + (operandB s).2 else s.forwards := by
  obtain ⟨hx, hforwards, -⟩ := tick_eq_backEnd hs
  rw [hx, hforwards]
  simp [backEnd, exStage_exMem, exStage_forwards, operandA, operandB]

theorem tick_exMem_of_valid {s : State} (hs : s.halted = false) (hv : s.idEx.valid = true) :
    (tick s).exMem = executed s.idEx (operandA s).1 (operandB s).1 := by
  rw [(tick_execute hs).1, if_pos hv]

theorem tick_exMem_of_bubble {s : State} (hs : s.halted = false) (hv : s.idEx.valid = false) :
    (tick s).exMem = flushedExMem := by
  rw [(tick_execute hs).1, if_neg (by simp [hv])]

/-- A jump is always taken, a branch when its condition holds (R117). -/
theorem takenOf_iff (i : Decoded) (A B : Word) :
    takenOf i A B = true ↔ i.kind = .jal ∨ i.kind = .jalr ∨ (i.branch = true ∧ branchTaken i.kind A B = true) := by
  rw [takenOf, ← or_assoc]
  by_cases hk : i.kind = .jal ∨ i.kind = .jalr
  · simp [hk]
  · simp [hk]

/-- The target of a taken branch or jump (R117). -/
theorem targetOf_of_taken {i : Decoded} {A B : Word} (h : takenOf i A B = true) (pc : Address) :
    targetOf i pc A B = if i.kind = .jalr then jalrTarget A i.imm else pc + i.imm := by
  rw [targetOf, if_pos h]

/-- Settles O42: EX/MEM and `forwards` are as EX leaves them, and a bubble in ID/EX does not redirect. -/
theorem executeTick : Obligations.ExecuteTick := by
  intro s t he hs h
  obtain rfl := eq_tick_of_step he h
  obtain ⟨hx, hforwards⟩ := tick_execute hs
  obtain ⟨hback, -, hflushes⟩ := tick_eq_backEnd hs
  refine ⟨fun hv => ?_, fun hv A B hA hB => ?_⟩
  · rw [if_neg (by simp [hv])] at hx hforwards
    obtain ⟨-, -, -, hsame⟩ := backEnd_front (s := s) (by rw [← hback, hx]; rfl)
    exact ⟨hx, hforwards, hflushes.trans hsame⟩
  · obtain rfl : A = operandA s := hA
    obtain rfl : B = operandB s := hB
    rw [hx, hforwards, if_pos hv, if_pos hv]
    exact ⟨rfl, rfl, rfl, rfl, takenOf_iff _ _ _, fun ht => targetOf_of_taken ht _, rfl⟩

/-! The drained state after a tick. -/

theorem writeReg_regs (i : RegIdx) (v : Word) (s : State) :
    (writeReg i v s).regs = if i = 0#5 then s.regs else s.regs.set i.toNat v := by
  unfold writeReg
  split <;> rfl

/-- The write-back gives equal register files from equal register files (R119). -/
theorem writeBack_regs_congr {s t : State} (h : s.regs = t.regs) (i : Decoded) (v : Word) :
    (writeBack i v s).regs = (writeBack i v t).regs := by
  unfold writeBack
  split
  · rw [writeReg_regs, writeReg_regs, h]
  · exact h

/-- WB gives equal register files from equal register files. -/
theorem wbStage_regs_congr {s t : State} (h : s.regs = t.regs) (m : MemWb) : (wbStage m s).regs = (wbStage m t).regs := by
  cases hv : m.valid with
  | false => rwa [wbStage_invalid m s hv, wbStage_invalid m t hv]
  | true =>
    rw [(wbStage_valid m s hv).1, (wbStage_valid m t hv).1]
    exact writeBack_regs_congr h m.ins _

/-- MEM gives an equal memory and an equal MEM/WB from equal memories. -/
theorem memStage_congr {s t : State} (h : s.mem = t.mem) (e : ExMem) :
    (memStage e s).mem = (memStage e t).mem ∧ (memStage e s).memWb = (memStage e t).memWb := by
  simp [memStage_mem, memStage_memWb, memDataOf, h]

theorem drained_mem (s : State) : (drained s).mem = (memStage s.exMem s).mem := by
  simp [drained, memStage_mem]

theorem drained_regs (s : State) :
    (drained s).regs = (wbStage (memStage s.exMem s).memWb (wbStage s.memWb s)).regs := by
  have hregs := wbStage_regs_congr (memStage_regs s.exMem (wbStage s.memWb s)) (memStage s.exMem (wbStage s.memWb s)).memWb
  exact (memStage_congr (wbStage_mem s.memWb s) s.exMem).2 ▸ hregs

/-- After a tick the instruction of EX/MEM has completed MEM, and completes WB next. -/
theorem drained_eq_of_tick {s : State} (hs : s.halted = false) :
    (tick s).mem = (drained s).mem ∧ (wbStage (tick s).memWb (tick s)).regs = (drained s).regs := by
  obtain ⟨hmem, hwb, -⟩ := tick_memory hs
  rw [drained_regs, drained_mem, hwb]
  exact ⟨hmem, wbStage_regs_congr ((tick_regs_halted hs).1.trans (wbStage_regs_congr (by rfl) s.memWb)) _⟩

/-- A tick moves the drained state on by the instruction that the tick executes: it completes MEM and WB, one after the other,
where it would otherwise wait in EX/MEM. -/
theorem drained_tick {s : State} (hs : s.halted = false) :
    (drained (tick s)).mem = (memStage (tick s).exMem (drained s)).mem ∧
    (drained (tick s)).regs = (wbStage (memStage (tick s).exMem (drained s)).memWb (drained s)).regs := by
  obtain ⟨hmem, hregs⟩ := drained_eq_of_tick hs
  obtain ⟨hcmem, hcwb⟩ := memStage_congr hmem (tick s).exMem
  rw [drained_mem, drained_regs, hcmem, hcwb]
  exact ⟨rfl, wbStage_regs_congr hregs _⟩

/-- A bubble in ID/EX leaves the drained registers and memory (R24). -/
theorem drained_tick_of_bubble {s : State} (hs : s.halted = false) (hv : s.idEx.valid = false) :
    (drained (tick s)).mem = (drained s).mem ∧ (drained (tick s)).regs = (drained s).regs := by
  obtain ⟨hmem, hregs⟩ := drained_tick hs
  rw [hmem, hregs, tick_exMem_of_bubble hs hv]
  exact ⟨rfl, congrArg _ (wbStage_invalid _ _ rfl)⟩

/-- MEM and WB of an instruction executed on the operands `A` and `B` (R118, R119). -/
theorem drained_tick_of_executed {s : State} {d : IdEx} {A B : Word} (hs : s.halted = false)
    (hx : (tick s).exMem = executed d A B) :
    (drained (tick s)).mem = (accessMemory d.ins (resultOf d.ins d.pc A B) B (drained s)).mem ∧
    (drained (tick s)).regs = (writeBack d.ins (writeBackValue d.ins
      (memDataOf d.ins (resultOf d.ins d.pc A B) (drained s)) (resultOf d.ins d.pc A B)) (drained s)).regs := by
  obtain ⟨hmem, hregs⟩ := drained_tick hs
  rw [hmem, hregs, hx]
  exact ⟨rfl, (wbStage_valid _ _ rfl).1⟩

/-! Forwarding. -/

/-- A load is what takes its result from memory (R81). -/
theorem memToReg_eq_memRead {i : Decoded} (h : i = decodeRecord i.raw i.pc) : i.memToReg = i.memRead := by
  rw [h]
  rfl

/-- The source of an operand (R281), its two tests in the form of a register write. -/
theorem forwardSource_eq (rs : RegIdx) (e : ExMem) (m : MemWb) :
    forwardSource rs e m =
      if e.valid = true ∧ e.ins.regWrite = true ∧ e.ins.rd ≠ 0#5 ∧ rs = e.ins.rd then .exMem
      else if m.valid = true ∧ m.ins.regWrite = true ∧ m.ins.rd ≠ 0#5 ∧ rs = m.ins.rd then .memWb else .none := by
  have hfield (r : RegIdx) : r ≠ 0#5 ∧ rs = r ↔ rs ≠ 0#5 ∧ r = rs :=
    ⟨fun ⟨h0, h⟩ => ⟨h ▸ h0, h.symm⟩, fun ⟨h0, h⟩ => ⟨h ▸ h0, h.symm⟩⟩
  simp only [hfield]
  by_cases h0 : rs = 0#5
  · simp [forwardSource, h0]
  · simp [forwardSource, h0, and_assoc]

/-- What EX forwards: the result of EX/MEM, else what WB writes from MEM/WB, else the latched operand (R281, R295). -/
theorem forwardOperand_on (rs : RegIdx) (v : Word) (e : ExMem) (m : MemWb) :
    (forwardOperand true rs v e m).1 =
      if e.valid = true ∧ e.ins.regWrite = true ∧ e.ins.rd ≠ 0#5 ∧ rs = e.ins.rd then e.aluResult
      else if m.valid = true ∧ m.ins.regWrite = true ∧ m.ins.rd ≠ 0#5 ∧ rs = m.ins.rd
      then writeBackValue m.ins m.memData m.aluResult else v := by
  rw [forwardOperand, if_pos rfl, forwardSource_eq]
  split_ifs <;> rfl

/-- The registers of the drained state: the result of EX/MEM, else that of MEM/WB, else the stored register. -/
theorem readReg_drained (s : State) (j : RegIdx) :
    readReg (drained s) j =
      if s.exMem.valid = true ∧ s.exMem.ins.regWrite = true ∧ s.exMem.ins.rd ≠ 0#5 ∧ j = s.exMem.ins.rd
      then writeBackValue s.exMem.ins (memDataOf s.exMem.ins s.exMem.aluResult s) s.exMem.aluResult
      else readReg (wbStage s.memWb s) j := by
  rw [readReg_of_regs (drained_regs s), readReg_wbStage, memStage_memWb]
  cases s.exMem.valid with
  | true => rfl
  | false => rfl

/-- What EX forwards for a register field is the drained register (R295, R301), where a load in EX/MEM is not its source. -/
theorem forwardOperand_eq_drained {s : State} (hinv : Inv s) (rs : RegIdx)
    (hload : s.exMem.valid = true → s.exMem.ins.memRead = true → s.exMem.ins.rd ≠ 0#5 → rs ≠ s.exMem.ins.rd) :
    (forwardOperand true rs (readReg s rs) s.exMem s.memWb).1 = readReg (drained s) rs := by
  rw [forwardOperand_on, readReg_drained, readReg_wbStage]
  split
  · rename_i hE
    obtain ⟨hv, -, h0, hrd⟩ := hE
    have hread : s.exMem.ins.memRead = false := by
      cases hm : s.exMem.ins.memRead with
      | false => rfl
      | true => exact absurd hrd (hload hv hm h0)
    simp [writeBackValue, memToReg_eq_memRead (hinv.exMemOk.2 hv).1, hread]
  · rfl

/-! The reference engine. -/

/-- One step of an engine in step with the pipeline runs the instruction in ID/EX (R120, R310). -/
theorem step_of_inStep {s r : State} (hinv : Inv s) (hv : s.idEx.valid = true) (hcoh : FetchCoherent s) (hr : InStep s r) :
    step r = .next (datapathStep s.idEx.ins (countFetch r)) := by
  have hpc : r.pc = s.idEx.pc := hr.pc.trans (if_pos hv)
  have hword : fetchWord r = s.idEx.ins.raw := by
    rw [hcoh hv, ← hr.mem, ← hpc]
    rfl
  rw [step_singleCycle r hr.engine hr.running, execIsTheCommonDatapath, hword, countFetch_pc, hpc,
    ← (hinv.idExOk.2 hv).1]

/-- The reference step of an instruction that is no ECALL (R115 to R120). -/
theorem datapathStep_of_not_ecall {i : Decoded} (hk : i.kind ≠ .ecall) (s : State) :
    datapathStep i s =
      retireAt (nextPcOf i s.pc (readReg s i.rs1) (readReg s i.rs2))
        (writeBack i (writeBackValue i (memDataOf i (resultOf i s.pc (readReg s i.rs1) (readReg s i.rs2)) s)
          (resultOf i s.pc (readReg s i.rs1) (readReg s i.rs2)))
        (accessMemory i (resultOf i s.pc (readReg s i.rs1) (readReg s i.rs2)) (readReg s i.rs2) s)) :=
  if_neg hk

/-- The access of R118 gives equal memories from equal memories. -/
theorem accessMemory_mem_congr {s t : State} (h : s.mem = t.mem) (i : Decoded) (a b : Word) :
    (accessMemory i a b s).mem = (accessMemory i a b t).mem := by
  unfold accessMemory
  split
  · exact h
  · split
    · simp [h]
    · exact h

/-- A tick that executes an instruction on its drained operands, and goes on where they lead, commits the reference step of that
instruction. -/
theorem inStep_of_executed {s r : State} (hs : s.halted = false) (hv : s.idEx.valid = true) (hk : s.idEx.ins.kind ≠ .ecall)
    (hr : InStep s r) (ha : (operandA s).1 = readReg (drained s) s.idEx.ins.rs1)
    (hb : (operandB s).1 = readReg (drained s) s.idEx.ins.rs2)
    (hnext : nextToExecute (tick s) = nextPcOf s.idEx.ins s.idEx.pc (operandA s).1 (operandB s).1) :
    InStep (tick s) (datapathStep s.idEx.ins (countFetch r)) := by
  obtain ⟨hmem, hregs⟩ := drained_tick_of_executed hs (tick_exMem_of_valid hs hv)
  have hpc : (countFetch r).pc = s.idEx.pc := hr.pc.trans (if_pos hv)
  have hA : readReg (countFetch r) s.idEx.ins.rs1 = (operandA s).1 := (readReg_of_regs hr.regs _).trans ha.symm
  have hB : readReg (countFetch r) s.idEx.ins.rs2 = (operandB s).1 := (readReg_of_regs hr.regs _).trans hb.symm
  rw [datapathStep_of_not_ecall hk, hA, hB, hpc]
  refine ⟨by simpa using hr.engine, by simpa using hr.running, ?_, ?_, hnext.symm⟩
  · rw [hregs, retireAt_regs]
    simp only [memDataOf, countFetch_mem, hr.mem]
    exact writeBack_regs_congr (by simpa using hr.regs) _ _
  · rw [hmem]
    simpa using accessMemory_mem_congr (s := countFetch r) hr.mem _ _ _

/-! The front of the pipeline. -/

/-- A load is neither a branch nor a jump (R20). -/
theorem takenOf_of_load {w : Word} {p : Address} (h : (decodeRecord w p).memRead = true) (A B : Word) :
    takenOf (decodeRecord w p) A B = false := by
  obtain ⟨-, -, -, -, -, -, hroles, -⟩ := decodedRecordInvariants w p
  by_contra htaken
  rcases branch_or_jump_of_takenOf (Bool.not_eq_false _ ▸ htaken) with hrole | hrole
  all_goals
    simp only [h, hrole, Bool.toNat_true] at hroles
    omega

/-- A tick whose ID/EX redirects does not stall (R244 item 3): what stalls is a load. -/
theorem stallNow_of_taken {s : State} (hd : IdExOk s.idEx) {A B : Word} (h : takenOf s.idEx.ins A B = true) :
    stallNow s = false := by
  by_contra hstall
  obtain ⟨-, hload⟩ := Bool.and_eq_true_iff.1 (Bool.not_eq_false _ ▸ hstall)
  obtain ⟨hv, hread, -, -⟩ := (loadUsePredicate.1 _ _).1 hload
  rw [(hd.2 hv).1] at h hread
  simp [takenOf_of_load hread] at h

/-- What a redirect makes of the front of the pipeline before ID and IF run (R296). -/
theorem backEnd_of_taken {s : State} (hv : s.idEx.valid = true)
    (htaken : takenOf s.idEx.ins (operandA s).1 (operandB s).1 = true) :
    (backEnd s).ifId = flushedIfId ∧ (backEnd s).pc = targetOf s.idEx.ins s.idEx.pc (operandA s).1 (operandB s).1 := by
  have hex := exStage_redirects s.idEx s.exMem s.memWb
    (memStage s.exMem (wbStage s.memWb { s with stalled := stallNow s })) hv (by simpa [operandA, operandB] using htaken)
  simp only [backEnd, hex]
  simp [operandA, operandB]

/-- A redirecting tick fetches from the target and leaves a bubble in ID/EX (R296, R298, R302). -/
theorem nextToExecute_tick_of_taken {s : State} (hinv : Inv s) (hs : s.halted = false) (hv : s.idEx.valid = true)
    (htaken : takenOf s.idEx.ins (operandA s).1 (operandB s).1 = true) :
    nextToExecute (tick s) = targetOf s.idEx.ins s.idEx.pc (operandA s).1 (operandB s).1 := by
  obtain ⟨hif, hpc⟩ := backEnd_of_taken hv htaken
  have hid : (idStage (backEnd s)).idEx = flushedIdEx := by rw [idStage_idEx, hif]; rfl
  rw [tick_flowing s hs (stallNow_of_taken hinv.idExOk htaken)]
  simp [nextToExecute, hid, hpc, flushedIdEx]

/-- A tick that does not redirect goes on with the instruction behind, whether it stalls or not (R297, R299). -/
theorem nextToExecute_tick_of_not_taken {s : State} (hinv : Inv s) (he : s.engine = .pipeline) (hs : s.halted = false)
    (htaken : (tick s).exMem.branchTaken = false) :
    nextToExecute (tick s) = if s.ifId.valid then s.ifId.pc else s.pc := by
  cases hst : stallNow s with
  | true =>
    have htick := tick_stalled s hs hst
    obtain ⟨hpc, -, hif, -⟩ := backEnd_front (s := s) (by simpa [htick] using htaken)
    simp [nextToExecute, htick, hif, hpc, flushedIdEx]
  | false =>
    obtain ⟨hif, -, -, -, -, hbubble, hnext⟩ := flowingTick s (tick s) hinv he hs (step_pipeline s he)
      (by simp [tick_flowing s hs hst, hst]) htaken
    cases hv : s.ifId.valid with
    | true => simp [nextToExecute, hnext hv]
    | false => simp [nextToExecute, hif, hbubble hv, flushedIdEx]

/-- An instruction in ID/EX is followed by the one its operands lead to (R117, R296, R299). -/
theorem nextToExecute_tick {s : State} (hinv : Inv s) (hflow : Flow s) (he : s.engine = .pipeline) (hs : s.halted = false)
    (hv : s.idEx.valid = true) :
    nextToExecute (tick s) = nextPcOf s.idEx.ins s.idEx.pc (operandA s).1 (operandB s).1 := by
  unfold nextPcOf
  cases htaken : takenOf s.idEx.ins (operandA s).1 (operandB s).1 with
  | true => exact nextToExecute_tick_of_taken hinv hs hv htaken
  | false =>
    obtain ⟨hif, hpc⟩ := hflow.idExFollows hv
    have hx : (tick s).exMem.branchTaken = false := by rwa [tick_exMem_of_valid hs hv]
    rw [nextToExecute_tick_of_not_taken hinv he hs hx, if_pos hif, hpc]
    rfl

/-- A bubble in ID/EX leaves the next instruction to execute (R24, R297). -/
theorem nextToExecute_tick_of_bubble {s : State} (hinv : Inv s) (he : s.engine = .pipeline) (hs : s.halted = false)
    (hv : s.idEx.valid = false) : nextToExecute (tick s) = nextToExecute s := by
  have hx : (tick s).exMem.branchTaken = false := by rw [tick_exMem_of_bubble hs hv]; rfl
  rw [nextToExecute_tick_of_not_taken hinv he hs hx, nextToExecute, hv]
  rfl

/-- Settles O57: the operands EX uses are the drained registers, so the instruction it executes drains to what the reference step
makes of it; a bubble moves nothing. -/
theorem tickCommitsReferenceStep : Obligations.TickCommitsReferenceStep := by
  intro s r hinv hflow hload hecall he hs hfw hcoh hk hr
  cases hv : s.idEx.valid with
  | true =>
    have hA : (operandA s).1 = readReg (drained s) s.idEx.ins.rs1 := by
      rw [operandA, hfw, hflow.operand1 hv]
      exact forwardOperand_eq_drained hinv _ fun hx hm h0 => (hload hv hx hm h0).1
    have hB : (operandB s).1 = readReg (drained s) s.idEx.ins.rs2 := by
      rw [operandB, hfw, hflow.operand2 hv]
      exact forwardOperand_eq_drained hinv _ fun hx hm h0 => (hload hv hx hm h0).2
    exact ⟨_, step_of_inStep hinv hv hcoh hr,
      inStep_of_executed hs hv (hk hv) hr hA hB (nextToExecute_tick hinv hflow he hs hv)⟩
  | false =>
    obtain ⟨hmem, hregs⟩ := drained_tick_of_bubble hs hv
    exact ⟨hr.engine, hr.running, hr.regs.trans hregs.symm, hr.mem.trans hmem.symm,
      hr.pc.trans (nextToExecute_tick_of_bubble hinv he hs hv).symm⟩

end Sys2Proof.Machine
/-! An ECALL on its way from EX to WB: it halts the pipeline, and nothing behind it writes a register. -/

namespace Sys2Proof.Machine

open Sys2Proof.Safety

/-- An ECALL writes no register, makes no access and is no branch (R81). -/
theorem ecall_controlBits {i : Decoded} (h : i = decodeRecord i.raw i.pc) (hk : i.kind = .ecall) :
    i.regWrite = false ∧ i.memRead = false ∧ i.memWrite = false ∧ i.branch = false := by
  have hbits : ∀ k : Kind, k = .ecall → k.writesReg = false ∧ k.isLoad = false ∧ k.isStore = false ∧ k.isBranch = false := by
    rintro k rfl
    decide
  rw [h] at hk ⊢
  exact hbits _ hk

theorem tick_cycles {s : State} (hs : s.halted = false) : (tick s).cycles = s.cycles + 1 := by
  rcases tick_cases s with ⟨hh, _⟩ | ⟨_, h⟩ | ⟨_, h⟩
  · simp [hs] at hh
  · simp [h]
  · simp [h]

theorem tick_engine (s : State) : (tick s).engine = s.engine := (tick_sameConfiguration s).2.2.2

/-- A tick leaves the machine running exactly where MEM/WB holds no ECALL (R293). -/
theorem tick_running_iff {s : State} (he : s.engine = .pipeline) (hs : s.halted = false) :
    (tick s).halted = false ↔ (s.memWb.valid = true → s.memWb.ins.kind ≠ .ecall) := by
  rw [← Bool.not_eq_true, (writebackTick s (tick s) he hs (step_pipeline s he)).2]
  exact not_and

/-- The tick of an ECALL in ID/EX: it goes to EX/MEM, and the instruction of IF/ID follows it into ID/EX (R230, R296, R297). -/
theorem tick_of_ecall_in_idEx {s : State} (hinv : Inv s) (he : s.engine = .pipeline) (hs : s.halted = false)
    (hv : s.idEx.valid = true) (hk : s.idEx.ins.kind = .ecall) :
    (tick s).exMem.valid = true ∧ (tick s).exMem.ins = s.idEx.ins ∧
    (tick s).idEx.valid = true ∧ (tick s).idEx.ins = decodeRecord s.ifId.raw s.ifId.pc := by
  have hins : s.idEx.ins = decodeRecord s.idEx.ins.raw s.idEx.ins.pc := by
    have hd := (hinv.idExOk.2 hv).1
    have hpc : s.idEx.ins.pc = s.idEx.pc := by rw [hd]; rfl
    rwa [hpc]
  obtain ⟨-, hread, -, hbranch⟩ := ecall_controlBits hins hk
  have hx := tick_exMem_of_valid hs hv
  have hstall : stallNow s = false := by simp [stallNow, detectLoadUse, hread]
  have htaken : (tick s).exMem.branchTaken = false := by simp [hx, executed, takenOf, hk, hbranch]
  obtain ⟨-, -, -, -, -, -, hid⟩ := flowingTick s (tick s) hinv he hs (step_pipeline s he)
    (by simp [tick_flowing s hs hstall, hstall]) htaken
  rw [hx, hid (hinv.fetchedBehind hv)]
  exact ⟨rfl, rfl, rfl, rfl⟩

/-- The tick of an ECALL in EX/MEM: it goes to MEM/WB and stores nothing. -/
theorem tick_of_ecall_in_exMem {s : State} (hinv : Inv s) (he : s.engine = .pipeline) (hs : s.halted = false)
    (hv : s.exMem.valid = true) (hk : s.exMem.ins.kind = .ecall) :
    (tick s).memWb.valid = true ∧ (tick s).memWb.ins = s.exMem.ins ∧ (tick s).mem = s.mem := by
  obtain ⟨-, -, hwrite, -⟩ := ecall_controlBits (hinv.exMemOk.2 hv).1 hk
  obtain ⟨hwb, hmem, -⟩ := (memoryTick s (tick s) he hs hinv (step_pipeline s he)).2.1 hv
  rw [hwb, hmem, hwrite]
  exact ⟨rfl, rfl, rfl⟩

/-- The tick of an ECALL in MEM/WB: it halts the machine and writes no register. -/
theorem tick_of_ecall_in_memWb {s : State} (hinv : Inv s) (he : s.engine = .pipeline) (hs : s.halted = false)
    (hv : s.memWb.valid = true) (hk : s.memWb.ins.kind = .ecall) :
    (tick s).halted = true ∧ (tick s).regs = s.regs := by
  obtain ⟨hwrite, -⟩ := ecall_controlBits (hinv.memWbOk.2 hv).1 hk
  refine ⟨(writebackTick s (tick s) he hs (step_pipeline s he)).2.2 ⟨hv, hk⟩, ?_⟩
  rw [(tick_regs_halted hs).1, (wbStage_valid _ _ hv).1, writeBack, if_neg (by simp [hwrite])]

/-- What MEM does in a tick to memory (R294). -/
theorem tick_mem {s : State} (hinv : Inv s) (he : s.engine = .pipeline) (hs : s.halted = false) :
    (tick s).mem = if s.exMem.valid = true ∧ s.exMem.ins.memWrite = true
      then storeValue s.exMem.ins.kind s.mem s.exMem.aluResult s.exMem.rs2Val else s.mem := by
  obtain ⟨hbubble, hfull, -⟩ := memoryTick s (tick s) he hs hinv (step_pipeline s he)
  cases hv : s.exMem.valid with
  | false => simp [(hbubble hv).2.1]
  | true => simp [(hfull hv).2.1]

/-- Settles O59: the ECALL passes MEM and WB in the second and third tick, with the instructions before it drained. -/
theorem ecallDrainsThePipeline : Obligations.EcallDrainsThePipeline := by
  intro s hinv hpast he hs hv hk
  have he1 : (tick s).engine = .pipeline := (tick_engine s).trans he
  have he2 : (tick (tick s)).engine = .pipeline := (tick_engine _).trans he1
  have hinv1 := inv_tick hinv
  have hinv2 := inv_tick hinv1
  have hs1 : (tick s).halted = false := (tick_running_iff he hs).2 hpast.2
  obtain ⟨hxv, hxins, hdv, hdins⟩ := tick_of_ecall_in_idEx hinv he hs hv hk
  have hxk : (tick s).exMem.ins.kind = .ecall := hxins ▸ hk
  have hs2 : (tick (tick s)).halted = false := by
    refine (tick_running_iff he1 hs1).2 ?_
    rw [(tick_memory hs).2.1, memStage_memWb]
    split
    · exact fun _ => hpast.1 ‹_›
    · exact fun h => absurd h Bool.false_ne_true
  obtain ⟨hwv, hwins, hmem2⟩ := tick_of_ecall_in_exMem hinv1 he1 hs1 hxv hxk
  obtain ⟨hhalt, hregs3⟩ := tick_of_ecall_in_memWb hinv2 he2 hs2 hwv (hwins ▸ hxk)
  obtain ⟨hmem, hregs⟩ := drained_eq_of_tick hs
  have hregs2 : (tick (tick s)).regs = (drained s).regs :=
    ((tick_regs_halted hs1).1.trans (wbStage_regs_congr (by rfl) _)).trans hregs
  have hmem3 := tick_mem hinv2 he2 hs2
  rw [hmem2, hmem] at hmem3
  refine ⟨⟨hs2, hhalt, ?_, hregs3.trans hregs2, hmem2.trans hmem, hmem3⟩, fun hflow => ?_, fun r hcoh hr => ?_⟩
  · show (tick (tick (tick s))).cycles = s.cycles + 3
    rw [tick_cycles hs2, tick_cycles hs1, tick_cycles hs]
  · have hpc := (hflow.idExFollows hv).2
    have hx2 : (ticks 2 s).exMem = _ := tick_exMem_of_valid hs1 hdv
    refine ⟨hpc, ?_⟩
    rw [hx2, ← hpc]
    exact ⟨rfl, hdins⟩
  · refine ⟨_, step_of_inStep hinv hv hcoh hr, ?_⟩
    rw [datapathStep, if_pos hk]
    refine ⟨rfl, hr.pc.trans (if_pos hv), hr.regs.trans (hregs3.trans hregs2).symm, fun hstore => ?_⟩
    have hno : ¬ ((tick (tick s)).exMem.valid = true ∧ (tick (tick s)).exMem.ins.memWrite = true) := fun ⟨hxv2, hw⟩ =>
      Bool.false_ne_true ((hstore hxv2).symm.trans hw)
    exact hr.mem.trans (hmem3.trans (if_neg hno)).symm

end Sys2Proof.Machine
/-! The ALU: what its operations compute, as operations on words and as sums, products and quotients of the numbers the words
stand for. -/

namespace Sys2Proof.Machine

/-! Shifts. -/

/-- A shift reads its second operand through the shift amount alone (R111). -/
theorem alu_shift_congr {op : AluOp} (hop : op = .sll ∨ op = .srl ∨ op = .sra) (a : Word) {b c : Word}
    (h : shiftAmount b = shiftAmount c) : alu op a b = alu op a c := by
  rcases hop with rfl | rfl | rfl <;> simp only [alu, h]

/-- The low five bits of a word are what it leaves modulo 32. -/
theorem shiftAmount_and_31 (b : Word) : shiftAmount (b &&& 0x1F#32) = shiftAmount b := by
  have hmask : (b &&& 0x1F#32).toNat = b.toNat % 32 := Nat.and_two_pow_sub_one_eq_mod b.toNat 5
  rw [shiftAmount, shiftAmount, hmask, Nat.mod_mod]

theorem alu_shift_zero {op : AluOp} (hop : op = .sll ∨ op = .srl ∨ op = .sra) (a : Word) : alu op a 0#32 = a := by
  rcases hop with rfl | rfl | rfl <;> simp [alu, shiftAmount]

/-- Settles O26: the shift amount of `b & 0x1F` is that of `b`, and that of 32 is that of 0. -/
theorem shiftsUseLowFiveBits : Obligations.ShiftsUseLowFiveBits := by
  refine ⟨fun op a b hop => ⟨?_, ?_, alu_shift_zero hop a⟩, by decide, by decide⟩
  · exact alu_shift_congr hop a (shiftAmount_and_31 b).symm
  · exact alu_shift_congr hop a (by decide)

/-! Products. -/

/-- MUL is the product of the words: its low half is the same for signed and for unsigned operands (R110). -/
theorem alu_mul (a b : Word) : alu .mul a b = a * b := by
  simp only [alu, BitVec.ofInt_mul, BitVec.ofInt_toInt]

theorem mul_eq_ofNat (a b : Word) : a * b = BitVec.ofNat 32 (a.toNat * b.toNat) := by
  simp [BitVec.ofNat_mul]

/-- The high half of a product is its quotient by 2^32, rounded down (R110). -/
theorem highHalf_eq_ofInt (p : Int) : highHalf p = BitVec.ofInt 32 (p / 2 ^ 32) := by
  apply BitVec.eq_of_toNat_eq
  simp only [highHalf, BitVec.extractLsb'_toNat, BitVec.toNat_ofInt, Nat.shiftRight_eq_div_pow]
  omega

/-- The two halves of a number that fits 64 bits, signed. -/
theorem halves_recombine_signed {p : Int} (hlo : -2 ^ 63 ≤ p) (hhi : p < 2 ^ 63) :
    (highHalf p).toInt * 2 ^ 32 + ((BitVec.ofInt 32 p).toNat : Int) = p := by
  rw [highHalf_eq_ofInt, BitVec.toInt_ofInt_eq_self (by decide) (by omega) (by omega), BitVec.toNat_ofInt]
  omega

/-- The two halves of a number that fits 64 bits, unsigned. -/
theorem halves_recombine_unsigned {p : Nat} (h : p < 2 ^ 64) :
    (highHalf (p : Int)).toNat * 2 ^ 32 + (BitVec.ofNat 32 p).toNat = p := by
  rw [highHalf_eq_ofInt, BitVec.toNat_ofInt, BitVec.toNat_ofNat]
  omega

/-- A product whose factors are at most 2^31 and 2^32 - 1 in size fits 64 bits, signed. -/
theorem product_fits {x y : Int} (hx : |x| ≤ 2 ^ 31) (hy : |y| ≤ 2 ^ 32 - 1) : -2 ^ 63 ≤ x * y ∧ x * y < 2 ^ 63 := by
  have hmul : |x * y| ≤ 2 ^ 31 * (2 ^ 32 - 1) := abs_mul x y ▸ mul_le_mul hx hy (abs_nonneg y) (by decide)
  have := abs_le.1 hmul
  omega

theorem abs_toInt_le (a : Word) : |a.toInt| ≤ 2 ^ 31 :=
  abs_le.2 ⟨a.le_toInt, a.toInt_lt.le⟩

/-- Settles O29: MUL is the low half of each of the three products, and each fits 64 bits. -/
theorem productHalvesRecombine : Obligations.ProductHalvesRecombine := by
  intro a b
  have hs : alu .mul a b = BitVec.ofInt 32 (a.toInt * b.toInt) := rfl
  have hsu : alu .mul a b = BitVec.ofInt 32 (a.toInt * (b.toNat : Int)) := by
    simp [alu_mul, BitVec.ofInt_mul]
  have hu : alu .mul a b = BitVec.ofNat 32 (a.toNat * b.toNat) := (alu_mul a b).trans (mul_eq_ofNat a b)
  refine ⟨?_, ?_, ?_⟩
  · rw [hs]
    obtain ⟨hlo, hhi⟩ := product_fits (abs_toInt_le a) ((abs_toInt_le b).trans (by decide))
    exact halves_recombine_signed hlo hhi
  · rw [hsu]
    obtain ⟨hlo, hhi⟩ := product_fits (y := (b.toNat : Int)) (abs_toInt_le a) (by rw [Nat.abs_cast]; omega)
    exact halves_recombine_signed hlo hhi
  · rw [hu]
    have hlt : a.toNat * b.toNat < 2 ^ 32 * 2 ^ 32 := Nat.mul_lt_mul'' a.isLt b.isLt
    exact halves_recombine_unsigned hlt

/-! Quotients and remainders. -/

/-- DIV and REM apart from the corner cases of R112: the rounded quotient and its remainder. -/
theorem alu_div_rem {a b : Word} (hb : b ≠ 0#32) (hov : ¬ (a = 0x80000000#32 ∧ b = 0xFFFFFFFF#32)) :
    alu .div a b = BitVec.ofInt 32 (a.toInt.tdiv b.toInt) ∧ alu .rem a b = BitVec.ofInt 32 (a.toInt.tmod b.toInt) := by
  rw [Int.tmod_def]
  exact ⟨(if_neg hb).trans (if_neg hov), (if_neg hb).trans (if_neg hov)⟩

/-- DIVU and REMU by a number other than 0. -/
theorem alu_divu_remu {a b : Word} (hb : b ≠ 0#32) :
    alu .divu a b = BitVec.ofNat 32 (a.toNat / b.toNat) ∧ alu .remu a b = BitVec.ofNat 32 (a.toNat % b.toNat) :=
  ⟨if_neg hb, if_neg hb⟩

/-- Settles O27: the identities of the rounded quotient of integers and of the quotient of naturals, modulo 2^32. -/
theorem divisionIdentity : Obligations.DivisionIdentity := by
  intro a b hb
  obtain ⟨hdivu, hremu⟩ := alu_divu_remu (a := a) hb
  refine ⟨fun hov => ?_, ?_, ?_⟩
  · obtain ⟨hdiv, hrem⟩ := alu_div_rem hb hov
    rw [hdiv, hrem]
    calc a = BitVec.ofInt 32 (b.toInt * a.toInt.tdiv b.toInt + a.toInt.tmod b.toInt) := by
          rw [Int.mul_tdiv_add_tmod, BitVec.ofInt_toInt]
      _ = _ := by rw [BitVec.ofInt_add, BitVec.ofInt_mul, BitVec.ofInt_toInt]
  · rw [hdivu, hremu]
    calc a = BitVec.ofNat 32 (b.toNat * (a.toNat / b.toNat) + a.toNat % b.toNat) := by
          rw [Nat.div_add_mod, BitVec.ofNat_toNat, BitVec.setWidth_eq]
      _ = _ := by rw [BitVec.ofNat_add, BitVec.ofNat_mul, BitVec.ofNat_toNat, BitVec.setWidth_eq]
  · rw [hremu, ← BitVec.umod_def]
    exact BitVec.umod_lt a ((BitVec.pos_iff_ne_zero b).2 hb)

/-- The signed value of the quotient: it fits a word unless INT32_MIN is divided by -1. -/
theorem toInt_alu_div {a b : Word} (hb : b ≠ 0#32) (hov : ¬ (a = 0x80000000#32 ∧ b = 0xFFFFFFFF#32)) :
    (alu .div a b).toInt = a.toInt.tdiv b.toInt := by
  have hsdiv := BitVec.toInt_sdiv_of_ne_or_ne a b (not_and_or.1 hov)
  rw [(alu_div_rem hb hov).1, ← hsdiv, BitVec.ofInt_toInt]

/-- The signed value of the remainder. -/
theorem toInt_alu_rem {a b : Word} (hb : b ≠ 0#32) (hov : ¬ (a = 0x80000000#32 ∧ b = 0xFFFFFFFF#32)) :
    (alu .rem a b).toInt = a.toInt.tmod b.toInt := by
  rw [(alu_div_rem hb hov).2, ← BitVec.toInt_srem, BitVec.ofInt_toInt]

/-- The rounded quotient by signs and magnitudes (R114). -/
theorem tdiv_eq_natAbs (x y : Int) :
    x.tdiv y = if (x < 0) ↔ (y < 0) then ((x.natAbs / y.natAbs : Nat) : Int) else -((x.natAbs / y.natAbs : Nat) : Int) := by
  rw [Int.ofNat_tdiv, Int.natCast_natAbs, Int.natCast_natAbs]
  rcases lt_or_ge x 0 with hx | hx
  · rcases lt_or_ge y 0 with hy | hy
    · rw [if_pos (iff_of_true hx hy), abs_of_neg hx, abs_of_neg hy, Int.neg_tdiv, Int.tdiv_neg, neg_neg]
    · rw [if_neg (by simp [hx, hy]), abs_of_neg hx, abs_of_nonneg hy, Int.neg_tdiv, neg_neg]
  · rcases lt_or_ge y 0 with hy | hy
    · rw [if_neg (by simp [hx, hy]), abs_of_nonneg hx, abs_of_neg hy, Int.tdiv_neg, neg_neg]
    · rw [if_pos (iff_of_false hx.not_gt hy.not_gt), abs_of_nonneg hx, abs_of_nonneg hy]

/-- The remainder of the rounded quotient by signs and magnitudes (R114). -/
theorem tmod_eq_natAbs (x y : Int) :
    x.tmod y = if x < 0 then -((x.natAbs % y.natAbs : Nat) : Int) else ((x.natAbs % y.natAbs : Nat) : Int) := by
  rw [Int.ofNat_tmod, Int.natCast_natAbs, Int.natCast_natAbs]
  have habs (z : Int) : z.tmod |y| = z.tmod y := by
    rcases abs_choice y with hy | hy
    · rw [hy]
    · rw [hy, Int.tmod_neg]
  rw [habs]
  split
  · rw [abs_of_neg ‹_›, Int.neg_tmod, neg_neg]
  · rw [abs_of_nonneg (not_lt.1 ‹_›)]

/-- Settles O28: outside the corner cases DIV and REM are the rounded quotient and its remainder. -/
theorem divisionSigns : Obligations.DivisionSigns := by
  refine ⟨fun a b hb hov => ⟨?_, ?_⟩, fun a => ⟨rfl, rfl, rfl, rfl⟩, by decide, by decide⟩
  · rw [toInt_alu_div hb hov, tdiv_eq_natAbs]
  · rw [toInt_alu_rem hb hov, tmod_eq_natAbs]

end Sys2Proof.Machine
/-! The results of the instructions of files 42 to 44, 48 and 49, and of a step of the single-cycle engine: the exact next
state, from the shape of the instruction's rule and the number its operands stand for. -/

namespace Sys2Proof.Machine

open Sys2Proof.Safety

/-! The shapes of the instruction rules, as the fields they set. -/

/-- A register write and the completion of the instruction. -/
theorem retireAt_writeReg (a : Address) (rd : RegIdx) (v : Word) (s : State) :
    retireAt a (writeReg rd v s) =
      { writeReg rd v s with pc := a, cycles := s.cycles + 1, instructions := s.instructions + 1 } := by
  simp [retireAt]

/-- A result that is the word `v` (R190, R200, R215). -/
theorem writeResult_eq {u v : Word} (h : u = v) (rd : RegIdx) (s : State) :
    writeResult rd u s =
      { writeReg rd v s with pc := s.pc + 4#32, cycles := s.cycles + 1, instructions := s.instructions + 1 } := by
  rw [writeResult, h, retireAt_writeReg]

/-- A jump to the address `b` (R150, R151). -/
theorem jumpTo_eq {a b : Address} (h : a = b) (rd : RegIdx) (s : State) :
    jumpTo rd a s =
      { writeReg rd (s.pc + 4#32) s with pc := b, cycles := s.cycles + 1, instructions := s.instructions + 1 } := by
  rw [jumpTo, h, retireAt_writeReg]

/-- A load that gives the word `v` (R170). -/
theorem loadInto_eq {k : Kind} {rs1 : RegIdx} {imm : BitVec 12} {s : State} {v : Word}
    (h : loadValue k s.mem (effectiveAddress s rs1 imm) = v) (rd : RegIdx) :
    loadInto k rd rs1 imm s =
      { writeReg rd v s with
        pc := s.pc + 4#32, cycles := s.cycles + 1, instructions := s.instructions + 1
        memReads := s.memReads + accessCount (accessWidth k) } := by
  rw [loadInto, h]
  unfold writeResult writeReg
  split <;> rfl

/-- A word plus a sign-extended immediate is the sum of the signed numbers modulo 2^32 (R14). -/
theorem add_signExtend_eq_ofInt {n : Nat} (x : Word) (y : BitVec n) :
    x + y.signExtend 32 = BitVec.ofInt 32 (x.toInt + y.toInt) := by
  rw [BitVec.ofInt_add, BitVec.ofInt_toInt]
  rfl

/-- A branch whose condition is `c` (R160). -/
theorem branchOn_eq {k : Kind} {rs1 rs2 : RegIdx} {s : State} {c : Prop} [Decidable c]
    (h : branchTaken k (readReg s rs1) (readReg s rs2) = true ↔ c) (off : BitVec 13) :
    branchOn k rs1 rs2 off s =
      { s with
        pc := if c then BitVec.ofInt 32 (s.pc.toInt + off.toInt) else s.pc + 4#32
        cycles := s.cycles + 1, instructions := s.instructions + 1 } := by
  simp only [branchOn, h, sext13, add_signExtend_eq_ofInt]
  rfl

/-! Jumps and branches. -/

/-- Clearing bit 0 of an address gives the even number below it (R117). -/
theorem jalrTarget_eq (a imm : Word) : jalrTarget a imm = BitVec.ofNat 32 (2 * ((a + imm).toNat / 2)) := by
  have hmask : (0xFFFFFFFE#32 : Word) = BitVec.allOnes 32 <<< 1 := by decide
  rw [jalrTarget, hmask, ← BitVec.shiftLeft_ushiftRight]
  apply BitVec.eq_of_toNat_eq
  simp [BitVec.toNat_shiftLeft, Nat.shiftLeft_eq, Nat.shiftRight_eq_div_pow, mul_comm]

/-- Settles O9: both targets are sums of signed numbers, that of JALR with bit 0 cleared. -/
theorem jumpResults : Obligations.JumpResults := by
  refine ⟨fun rd off s => ?_, fun rd rs1 imm s => ?_⟩
  · exact congrArg Host.Outcome.next (jumpTo_eq (add_signExtend_eq_ofInt s.pc off) rd s)
  · have htarget := jalrTarget_eq (readReg s rs1) (sext12 imm)
    rw [sext12, add_signExtend_eq_ofInt] at htarget
    exact congrArg Host.Outcome.next (jumpTo_eq htarget rd s)

/-- Settles O10: each of the six conditions is the comparison of the words or of the numbers they stand for. -/
theorem branchResults : Obligations.BranchResults := by
  intro rs1 rs2 off s
  refine ⟨?beq, ?bne, ?blt, ?bge, ?bltu, ?bgeu⟩ <;> refine congrArg Host.Outcome.next (branchOn_eq ?_ off)
  case beq | bne => simp [branchTaken]
  case blt | bge => simp [branchTaken, ltSigned]
  case bltu | bgeu => simp [branchTaken, ltUnsigned]

/-! Loads. -/

/-- Settles O11: each load writes what its bytes read as. -/
theorem loadResults : Obligations.LoadResults := by
  intro rd rs1 imm s a
  refine ⟨effectiveAddress_eq_ofInt s rs1 imm, ?_, ?_, ?_, ?_, ?_⟩
  all_goals exact congrArg Host.Outcome.next (loadInto_eq rfl rd)

/-! Multiply and divide. -/

/-- The high half of a product of naturals. -/
theorem highHalf_natCast (p : Nat) : highHalf (p : Int) = BitVec.ofNat 32 (p / 2 ^ 32) := by
  rw [highHalf_eq_ofInt, ← BitVec.ofInt_natCast]
  rfl

/-- Settles O16: the low half of the product of the words, and the high halves of the three products. -/
theorem multiplyResults : Obligations.MultiplyResults := by
  intro rd rs1 rs2 s
  have hmul := (alu_mul (readReg s rs1) (readReg s rs2)).trans (mul_eq_ofNat _ _)
  exact ⟨congrArg Host.Outcome.next (writeResult_eq hmul rd s),
    congrArg Host.Outcome.next (writeResult_eq (highHalf_eq_ofInt _) rd s),
    congrArg Host.Outcome.next (writeResult_eq (highHalf_eq_ofInt _) rd s),
    congrArg Host.Outcome.next (writeResult_eq (highHalf_natCast _) rd s)⟩

/-- DIV in its three cases: the dividend of the overflow case is INT32_MIN (R112). -/
theorem alu_div (a b : Word) : alu .div a b = if b = 0#32 then 0xFFFFFFFF#32
    else if a = 0x80000000#32 ∧ b = 0xFFFFFFFF#32 then 0x80000000#32 else BitVec.ofInt 32 (a.toInt.tdiv b.toInt) := by
  simp only [alu, divSigned]
  split
  · rfl
  · split
    · rename_i hov
      exact hov.1
    · rfl

/-- Settles O17: REM is stated with the remainder of the rounded quotient, the other three as the model has them. -/
theorem divideResults : Obligations.DivideResults := by
  intro rd rs1 rs2 s
  refine ⟨congrArg Host.Outcome.next (writeResult_eq (alu_div _ _) rd s),
    congrArg Host.Outcome.next (writeResult_eq rfl rd s),
    congrArg Host.Outcome.next (writeResult_eq ?_ rd s), congrArg Host.Outcome.next (writeResult_eq rfl rd s)⟩
  rw [Int.tmod_def]
  rfl

/-! Steps of the single-cycle engine. -/

/-- Settles O18: the completion at the ECALL's own `pc`, and the halt. -/
theorem ecallHaltsTheSingleCycleEngine : Obligations.EcallHaltsTheSingleCycleEngine := fun _ => rfl

/-- Settles O36: every instruction counts itself, and the fetch moves neither counter. -/
theorem singleCycleCountsEveryStep : Obligations.SingleCycleCountsEveryStep := by
  intro s t he hh h
  have hx := (step_singleCycle s he hh).symm.trans h
  obtain ⟨-, -, -, -, -, -, -, -, -, -, -, -, -, -, -, -, hcycles, hinstr⟩ := machineStateFrame _ _ _ hx
  exact ⟨hcycles, hinstr⟩

/-- The two configuration inputs of R17 set by the host. -/
def setToggles (hd fw : Bool) (s : State) : State := setHazardDetection hd (setForwarding fw s)

theorem writeReg_setToggles (hd fw : Bool) (i : RegIdx) (v : Word) (s : State) :
    writeReg i v (setToggles hd fw s) = setToggles hd fw (writeReg i v s) := by
  unfold writeReg
  split <;> rfl

theorem writeBack_setToggles (hd fw : Bool) (i : Decoded) (v : Word) (s : State) :
    writeBack i v (setToggles hd fw s) = setToggles hd fw (writeBack i v s) := by
  unfold writeBack
  split
  · exact writeReg_setToggles hd fw i.rd v s
  · rfl

theorem accessMemory_setToggles (hd fw : Bool) (i : Decoded) (a b : Word) (s : State) :
    accessMemory i a b (setToggles hd fw s) = setToggles hd fw (accessMemory i a b s) := by
  unfold accessMemory
  split
  · rfl
  · split <;> rfl

/-- The reference step reads neither input and writes neither (R122). -/
theorem datapathStep_setToggles (hd fw : Bool) (i : Decoded) (s : State) :
    datapathStep i (setToggles hd fw s) = setToggles hd fw (datapathStep i s) := by
  by_cases hk : i.kind = .ecall
  · rw [datapathStep, if_pos hk, datapathStep, if_pos hk]
    rfl
  · rw [datapathStep_of_not_ecall hk, datapathStep_of_not_ecall hk, accessMemory_setToggles, writeBack_setToggles]
    rfl

/-- Settles O50: a step that is not halted is the reference step of the word at `pc`. -/
theorem singleCycleIgnoresTheToggles : Obligations.SingleCycleIgnoresTheToggles := by
  intro s t hd fw he h
  change step (setToggles hd fw s) = .next (setToggles hd fw t)
  cases hh : s.halted with
  | true =>
    cases (step_halted s hh).symm.trans h
    exact step_halted (setToggles hd fw s) hh
  | false =>
    rw [step_singleCycle s he hh, execIsTheCommonDatapath] at h
    cases h
    rw [step_singleCycle (setToggles hd fw s) he hh, execIsTheCommonDatapath]
    exact congrArg Host.Outcome.next (datapathStep_setToggles hd fw _ (countFetch s))

end Sys2Proof.Machine

/-! The results of the upper-immediate instructions, file 41. -/

namespace Sys2Proof.Machine

/-- Appending 12 zero bits multiplies by 4096 (R76). -/
theorem upperImm_toNat (imm20 : BitVec 20) : (upperImm imm20).toNat = imm20.toNat * 4096 := by
  calc (upperImm imm20).toNat = imm20.toNat <<< 12 ||| 0 := BitVec.toNat_append ..
    _ = imm20.toNat * 4096 := by rw [Nat.or_zero, Nat.shiftLeft_eq]

theorem upperImm_eq_ofNat (imm20 : BitVec 20) : upperImm imm20 = BitVec.ofNat 32 (imm20.toNat * 4096) := by
  rw [← upperImm_toNat, BitVec.ofNat_toNat, BitVec.setWidth_eq]

/-- A word plus an upper immediate is the sum of the two numbers modulo 2^32 (R141). -/
theorem add_upperImm_eq_ofNat (x : Word) (imm20 : BitVec 20) :
    x + upperImm imm20 = BitVec.ofNat 32 (x.toNat + imm20.toNat * 4096) := by
  rw [upperImm_eq_ofNat, BitVec.ofNat_add, BitVec.ofNat_toNat, BitVec.setWidth_eq]

/-- Settles O8: the results are the upper immediate and its sum with `pc`, as numbers modulo 2^32. -/
theorem upperImmediateResults : Obligations.UpperImmediateResults := by
  intro rd imm20 s
  exact ⟨congrArg Host.Outcome.next (writeResult_eq (upperImm_eq_ofNat imm20) rd s),
    congrArg Host.Outcome.next (writeResult_eq (add_upperImm_eq_ofNat s.pc imm20) rd s)⟩

end Sys2Proof.Machine

/-! The results of the register-immediate instructions, file 46. -/

namespace Sys2Proof.Machine

/-! Comparisons and shifts, by the numbers the words stand for. -/

/-- "1 if ... else 0" of a signed comparison (R110). -/
theorem alu_slt (a b : Word) : alu .slt a b = if a.toInt < b.toInt then 1#32 else 0#32 := by
  simp only [alu, boolWord, ltSigned, decide_eq_true_eq]

/-- "1 if ... else 0" of an unsigned comparison (R110). -/
theorem alu_sltu (a b : Word) : alu .sltu a b = if a.toNat < b.toNat then 1#32 else 0#32 := by
  simp only [alu, boolWord, ltUnsigned, decide_eq_true_eq]

/-- A left shift is a product modulo 2^32 (R110). -/
theorem alu_sll (a b : Word) : alu .sll a b = BitVec.ofNat 32 (a.toNat * 2 ^ shiftAmount b) := by
  apply BitVec.eq_of_toNat_eq
  rw [alu, BitVec.toNat_shiftLeft, Nat.shiftLeft_eq, BitVec.toNat_ofNat]

/-- A right shift that brings in zeros is a quotient of the unsigned number (R110). -/
theorem alu_srl (a b : Word) : alu .srl a b = BitVec.ofNat 32 (a.toNat / 2 ^ shiftAmount b) := by
  rw [alu, ← Nat.shiftRight_eq_div_pow, ← BitVec.toNat_ushiftRight, BitVec.ofNat_toNat, BitVec.setWidth_eq]

/-- A right shift that brings in copies of bit 31 is a quotient of the signed number, rounded down (R110). -/
theorem alu_sra (a b : Word) : alu .sra a b = BitVec.ofInt 32 (a.toInt / 2 ^ shiftAmount b) := by
  rw [alu, BitVec.sshiftRight_eq, Int.shiftRight_eq_div_pow, Nat.cast_pow, Nat.cast_ofNat]

/-! The two immediate operands. -/

/-- Sign extension keeps the signed number (R73). -/
theorem toInt_sext12 (imm : BitVec 12) : (sext12 imm).toInt = imm.toInt :=
  BitVec.toInt_signExtend_of_le (by decide)

/-- The shift amount of an immediate shift is its five-bit field (R78, R111). -/
theorem shiftAmount_shamtWord (shamt : BitVec 5) : shiftAmount (shamtWord shamt) = shamt.toNat := by
  rw [shiftAmount, shamtWord, BitVec.toNat_setWidth_of_le (by decide), Nat.mod_eq_of_lt shamt.isLt]

/-! The instructions. -/

/-- A register-immediate instruction whose ALU operation gives `v` (R190). -/
theorem next_regImm_eq {op : AluOp} {rs1 : RegIdx} {b : Word} {s : State} {v : Word}
    (h : alu op (readReg s rs1) b = v) (rd : RegIdx) :
    (.next (regImm op rd rs1 b s) : Host.Outcome State Fault Refusal) = .next { writeReg rd v s with
      pc := s.pc + 4#32, cycles := s.cycles + 1, instructions := s.instructions + 1 } :=
  congrArg Host.Outcome.next (writeResult_eq h rd s)

/-- Settles O13: ADDI is a sum of signed numbers, SLTI compares with the number that sign extension keeps, and the other four
are the operations on words. -/
theorem immediateResults : Obligations.ImmediateResults := by
  intro rd rs1 imm s
  have hslti := alu_slt (readReg s rs1) (sext12 imm)
  rw [toInt_sext12] at hslti
  exact ⟨next_regImm_eq (add_signExtend_eq_ofInt _ imm) rd, next_regImm_eq hslti rd, next_regImm_eq (alu_sltu _ _) rd,
    next_regImm_eq rfl rd, next_regImm_eq rfl rd, next_regImm_eq rfl rd⟩

/-- Settles O14: the product and the two quotients by the power of two that the five-bit field names. -/
theorem immediateShiftResults : Obligations.ImmediateShiftResults := by
  intro rd rs1 shamt s
  rw [← shiftAmount_shamtWord shamt]
  exact ⟨next_regImm_eq (alu_sll _ _) rd, next_regImm_eq (alu_srl _ _) rd, next_regImm_eq (alu_sra _ _) rd⟩

end Sys2Proof.Machine

/-! The results of the register-register instructions, file 47. -/

namespace Sys2Proof.Machine

/-! Sum and difference, by the unsigned numbers the words stand for. -/

/-- A sum of words is the sum of the unsigned numbers modulo 2^32 (R110). -/
theorem alu_add (a b : Word) : alu .add a b = BitVec.ofNat 32 (a.toNat + b.toNat) := by
  simp only [alu, BitVec.ofNat_add, BitVec.ofNat_toNat, BitVec.setWidth_eq]

/-- A difference of words is the difference of the unsigned numbers modulo 2^32, a negative one included (R110). -/
theorem alu_sub (a b : Word) : alu .sub a b = BitVec.ofInt 32 ((a.toNat : Int) - (b.toNat : Int)) := by
  rw [alu, BitVec.sub_eq_add_neg, Int.sub_eq_add_neg, BitVec.ofInt_add, BitVec.ofInt_neg, BitVec.ofInt_natCast,
    BitVec.ofInt_natCast, BitVec.ofNat_toNat, BitVec.ofNat_toNat, BitVec.setWidth_eq, BitVec.setWidth_eq]

/-! The instructions. -/

/-- A register-register instruction whose ALU operation gives `v` (R200). -/
theorem next_regReg_eq {op : AluOp} {rs1 rs2 : RegIdx} {s : State} {v : Word}
    (h : alu op (readReg s rs1) (readReg s rs2) = v) (rd : RegIdx) :
    (.next (regReg op rd rs1 rs2 s) : Host.Outcome State Fault Refusal) = .next { writeReg rd v s with
      pc := s.pc + 4#32, cycles := s.cycles + 1, instructions := s.instructions + 1 } :=
  congrArg Host.Outcome.next (writeResult_eq h rd s)

/-- Settles O15: sum, difference, comparisons and shifts are those of the numbers the words stand for, a shift by the low five
bits of `x[rs2]`; XOR, OR and AND are the operations on words. -/
theorem registerResults : Obligations.RegisterResults := by
  intro rd rs1 rs2 s
  refine ⟨?add, ?sub, ?sll, ?slt, ?sltu, ?xor, ?srl, ?sra, ?or, ?and⟩
  case add => exact next_regReg_eq (alu_add _ _) rd
  case sub => exact next_regReg_eq (alu_sub _ _) rd
  case sll => exact next_regReg_eq (alu_sll _ _) rd
  case slt => exact next_regReg_eq (alu_slt _ _) rd
  case sltu => exact next_regReg_eq (alu_sltu _ _) rd
  case srl => exact next_regReg_eq (alu_srl _ _) rd
  case sra => exact next_regReg_eq (alu_sra _ _) rd
  case xor | or | and => exact next_regReg_eq rfl rd

end Sys2Proof.Machine

/-! The words that only advance, file 49. -/

namespace Sys2Proof.Machine

/-- Advancing past a word moves `pc` and the two counters of a completed step, nothing else (R120). -/
theorem passBy_eq (s : State) :
    passBy s = { s with pc := s.pc + 4#32, cycles := s.cycles + 1, instructions := s.instructions + 1 } := rfl

/-- Settles O19: EBREAK, a MISC-MEM word and a word that is no instruction are one operation, the advance past a word. -/
theorem bubbleWordsOnlyAdvance : Obligations.BubbleWordsOnlyAdvance := by
  intro bits w s
  exact ⟨congrArg Host.Outcome.next (passBy_eq s), congrArg Host.Outcome.next (passBy_eq s),
    congrArg Host.Outcome.next (passBy_eq s)⟩

end Sys2Proof.Machine

/-! What 60_exceptions.md leaves observable: the halt, the status of a step, and the breakpoint set, which no step reads but for
its status. -/

namespace Sys2Proof.Machine

/-! The halt and the status. -/

/-- HALTED on a halted engine, a breakpoint at its `pc` or not (R247, R256). -/
theorem stepStatus_halted {s : State} (hh : s.halted = true) : stepStatus s = .halted := by
  cases he : s.engine with
  | pipeline => simp [stepStatus, he, tickStatus, hh]
  | singleCycle => simp [stepStatus, he, singleStatus, hh]

/-- The status of a tick from a running pipeline, by the state the tick leaves (R290). -/
theorem stepStatus_running_pipeline {s : State} (he : s.engine = .pipeline) (hh : s.halted = false) :
    stepStatus s = if (tick s).pc ∈ s.breakpoints then .paused else if (tick s).halted then .halted else .running := by
  simp [stepStatus, he, tickStatus, hh]

/-- Settles O34: a halted machine stays, whatever its breakpoints, and `halted` has its launch value after a reset. -/
theorem haltedMachineStays : Obligations.HaltedMachineStays :=
  fun s hh => ⟨step_halted s hh, stepStatus_halted hh, fun _ => rfl⟩

/-- Settles O35: the state after a step of the pipeline is the one its status speaks of. -/
theorem statusPriority : Obligations.StatusPriority := by
  intro s t he hh h
  cases eq_tick_of_step he h
  exact stepStatus_running_pipeline he hh

/-! The operations of a step commute with a change of the breakpoint set (R256). -/

@[simp] theorem writeReg_setBreakpoints (b : List Address) (i : RegIdx) (v : Word) (s : State) :
    writeReg i v (setBreakpoints b s) = setBreakpoints b (writeReg i v s) := by
  unfold writeReg
  split <;> rfl

@[simp] theorem writeBack_setBreakpoints (b : List Address) (i : Decoded) (v : Word) (s : State) :
    writeBack i v (setBreakpoints b s) = setBreakpoints b (writeBack i v s) := by
  unfold writeBack
  split
  · exact writeReg_setBreakpoints b i.rd v s
  · rfl

@[simp] theorem accessMemory_setBreakpoints (b : List Address) (i : Decoded) (result B : Word) (s : State) :
    accessMemory i result B (setBreakpoints b s) = setBreakpoints b (accessMemory i result B s) := by
  unfold accessMemory
  split
  · rfl
  · split <;> rfl

/-- The reference step of the single-cycle engine (R120). -/
@[simp] theorem datapathStep_setBreakpoints (b : List Address) (i : Decoded) (s : State) :
    datapathStep i (setBreakpoints b s) = setBreakpoints b (datapathStep i s) := by
  by_cases hk : i.kind = .ecall
  · rw [datapathStep, if_pos hk, datapathStep, if_pos hk]
    rfl
  · rw [datapathStep_of_not_ecall hk, datapathStep_of_not_ecall hk, accessMemory_setBreakpoints, writeBack_setBreakpoints]
    rfl

@[simp] theorem wbStage_setBreakpoints (b : List Address) (m : MemWb) (s : State) :
    wbStage m (setBreakpoints b s) = setBreakpoints b (wbStage m s) := by
  unfold wbStage
  split
  · rw [writeBack_setBreakpoints]
    dsimp only
    split <;> rfl
  · rfl

@[simp] theorem memStage_setBreakpoints (b : List Address) (e : ExMem) (s : State) :
    memStage e (setBreakpoints b s) = setBreakpoints b (memStage e s) := by
  unfold memStage
  split
  · rw [accessMemory_setBreakpoints]
    rfl
  · rfl

@[simp] theorem exStage_setBreakpoints (b : List Address) (d : IdEx) (e : ExMem) (m : MemWb) (s : State) :
    exStage d e m (setBreakpoints b s) = setBreakpoints b (exStage d e m s) := by
  unfold exStage
  split
  · dsimp only [setBreakpoints]
    split <;> rfl
  · rfl

@[simp] theorem idStage_setBreakpoints (b : List Address) (s : State) :
    idStage (setBreakpoints b s) = setBreakpoints b (idStage s) := by
  rw [idStage_eq s, idStage_eq (setBreakpoints b s), idStage_idEx s, idStage_idEx (setBreakpoints b s)]
  rfl

/-- WB, MEM and EX in turn, on latches and a stall decision that no breakpoint enters (R291). -/
@[simp] theorem backEnd_setBreakpoints (b : List Address) (s : State) :
    backEnd (setBreakpoints b s) = setBreakpoints b (backEnd s) := by
  change exStage s.idEx s.exMem s.memWb
    (memStage s.exMem (wbStage s.memWb (setBreakpoints b { s with stalled := stallNow s }))) = _
  rw [wbStage_setBreakpoints, memStage_setBreakpoints, exStage_setBreakpoints]
  rfl

/-- Each of the three shapes of a tick. -/
@[simp] theorem tick_setBreakpoints (b : List Address) (s : State) :
    tick (setBreakpoints b s) = setBreakpoints b (tick s) := by
  cases hh : s.halted with
  | true => rw [tick_halted s hh, tick_halted (setBreakpoints b s) hh]
  | false =>
    cases hs : stallNow s with
    | true =>
      rw [tick_stalled s hh hs, tick_stalled (setBreakpoints b s) hh hs, backEnd_setBreakpoints]
      rfl
    | false =>
      rw [tick_flowing s hh hs, tick_flowing (setBreakpoints b s) hh hs, backEnd_setBreakpoints, idStage_setBreakpoints]
      rfl

/-- Settles O49: a tick is a composition of stages, a step of the single-cycle engine is the reference step of the word at
`pc`, and each commutes with the change of the set. -/
theorem breakpointsDoNotTouchState : Obligations.BreakpointsDoNotTouchState := by
  intro s t b h
  rcases step_cases h with ⟨hh, rfl⟩ | ⟨-, he, rfl⟩ | ⟨hh, he, hx⟩
  · exact step_halted (setBreakpoints b t) hh
  · rw [step_pipeline (setBreakpoints b s) he, tick_setBreakpoints]
  · rw [execIsTheCommonDatapath] at hx
    cases hx
    rw [step_singleCycle (setBreakpoints b s) he hh, execIsTheCommonDatapath]
    exact congrArg Host.Outcome.next (datapathStep_setBreakpoints b _ (countFetch s))

end Sys2Proof.Machine
/-! What a tick does to the front of the pipeline in each of its three shapes: it stalls, it redirects, or it flows. -/

namespace Sys2Proof.Machine

open Sys2Proof.Safety

/-! The hazard unit and the cycle counter. -/

/-- Settles O37: a tick of a running pipeline counts one cycle, whichever of its two shapes it has. -/
theorem tickCountsOneCycle : Obligations.TickCountsOneCycle := by
  intro s t he hs h
  obtain rfl := eq_tick_of_step he h
  exact tick_cycles hs

/-- Settles O39: the source is chosen by two tests, on EX/MEM and then on MEM/WB, and neither passes for `x0`. -/
theorem forwardSourcePriority : Obligations.ForwardSourcePriority := by
  intro rs e m inEx inWb
  have hchoice : forwardSource rs e m =
      if rs = 0#5 then .none else if inEx then .exMem else if inWb then .memWb else .none := by
    simp [forwardSource, inEx, inWb, and_assoc]
  rw [hchoice]
  by_cases h0 : rs = 0#5
  · simp [h0]
  · by_cases hEx : inEx
    · simp [h0, hEx, hEx.2.2]
    · by_cases hWb : inWb
      · simp [h0, hEx, hWb, hWb.2.2]
      · simp [h0, hEx, hWb]

/-- With `hazard_detection` off no tick stalls (R311). -/
theorem stallNow_of_off {s : State} (h : s.hazardDetection = false) : stallNow s = false := by
  simp [stallNow, h]

/-- With `forwarding` off an operand is the latched value, and nothing is counted (R312). -/
theorem forwardOperand_off (rs : RegIdx) (v : Word) (e : ExMem) (m : MemWb) : forwardOperand false rs v e m = (v, 0) := rfl

/-- Settles O46: without a stall the tick counts none, and EX executes on the values that ID latched. -/
theorem switchedOffFeaturesDoNothing : Obligations.SwitchedOffFeaturesDoNothing := by
  intro s t he hs h
  obtain rfl := eq_tick_of_step he h
  refine ⟨fun hoff => ?_, fun hoff => ?_⟩
  · have hstall := stallNow_of_off hoff
    simp [tick_flowing s hs hstall, hstall]
  · have hA : operandA s = (s.idEx.rs1Val, 0) := by rw [operandA, hoff, forwardOperand_off]
    have hB : operandB s = (s.idEx.rs2Val, 0) := by rw [operandB, hoff, forwardOperand_off]
    refine ⟨by simp [(tick_execute hs).2, hA, hB], fun hv => ?_⟩
    rw [tick_exMem_of_valid hs hv, hA, hB]

/-! A tick that redirects. -/

/-- EX that redirects flushes IF/ID and moves `pc` and `next_pc` to the target (R296). -/
theorem exStage_redirect_front {d : IdEx} {e : ExMem} {m : MemWb} {s : State} (h : (exStage d e m s).exMem.branchTaken = true) :
    (exStage d e m s).pc = (exStage d e m s).exMem.branchTarget ∧
    (exStage d e m s).nextPc = (exStage d e m s).exMem.branchTarget + 4#32 ∧
    (exStage d e m s).ifId = flushedIfId ∧ (exStage d e m s).flushes = s.flushes + 2 := by
  rcases exStage_cases d e m s with ⟨_, hex⟩ | ⟨_, A, B, n, htaken, hex⟩ | ⟨_, A, B, n, _, hex⟩
  · simp [hex, flushedExMem] at h
  · simp [hex, executed, htaken] at h
  · simp [hex, executed]

theorem backEnd_redirect_front {s : State} (h : (backEnd s).exMem.branchTaken = true) :
    (backEnd s).pc = (backEnd s).exMem.branchTarget ∧ (backEnd s).nextPc = (backEnd s).exMem.branchTarget + 4#32 ∧
    (backEnd s).ifId = flushedIfId ∧ (backEnd s).flushes = s.flushes + 2 := by
  simpa [backEnd] using exStage_redirect_front h

/-- A tick that redirects has executed a taken instruction, so it does not stall (R244 item 3). -/
theorem stallNow_of_branchTaken {s : State} (hinv : Inv s) (hs : s.halted = false)
    (htaken : (tick s).exMem.branchTaken = true) : stallNow s = false := by
  cases hv : s.idEx.valid with
  | false => simp [tick_exMem_of_bubble hs hv, flushedExMem] at htaken
  | true =>
    rw [tick_exMem_of_valid hs hv] at htaken
    exact stallNow_of_taken hinv.idExOk htaken

/-- Settles O43: ID finds the flushed IF/ID, and IF fetches at the target from the memory that MEM leaves. -/
theorem redirectTick : Obligations.RedirectTick := by
  intro s t hinv he hs h htaken
  obtain rfl := eq_tick_of_step he h
  have hstall := stallNow_of_branchTaken hinv hs htaken
  have htick := tick_flowing s hs hstall
  obtain ⟨hpc, hnext, hif, hflush⟩ := backEnd_redirect_front (s := s) (by simpa [htick] using htaken)
  have hbubble : (idStage (backEnd s)).idEx = flushedIdEx := by rw [idStage_idEx, hif]; rfl
  simp [htick, hstall, hpc, hnext, hflush, hbubble, BitVec.add_assoc]

/-! A tick that stalls. -/

/-- Settles O45: the load goes on to EX/MEM without redirecting, and the bubble behind it is no load. -/
theorem stalledTick : Obligations.StalledTick := by
  intro s t hinv he hs hon hload h
  obtain rfl := eq_tick_of_step he h
  obtain ⟨hv, hread, -, -⟩ := (loadUsePredicate.1 _ _).1 hload
  have hstall : stallNow s = true := by simp [stallNow, hon, hload]
  have htick := tick_stalled s hs hstall
  have hx := tick_exMem_of_valid hs hv
  have htaken : (tick s).exMem.branchTaken = false := by
    rw [hx, executed, (hinv.idExOk.2 hv).1]
    rw [(hinv.idExOk.2 hv).1] at hread
    exact takenOf_of_load hread _ _
  obtain ⟨hpc, hnext, hif, hflush⟩ := backEnd_front (s := s) (by simpa [htick] using htaken)
  have hbubble : (tick s).idEx = flushedIdEx := by rw [htick]; rfl
  have hnone : stallNow (tick s) = false := by simp [stallNow, detectLoadUse, hbubble, flushedIdEx]
  refine ⟨by simp [htick, hstall], by simp [htick], hbubble, by simp [htick, hif], by simp [htick, hpc],
    by simp [htick, hnext], by simp [htick, hflush], ?_, ?_, htaken, hnone⟩
  · rw [hx]; rfl
  · rw [hx]; rfl

/-! The flow of the pipeline. -/

/-- With a bubble in ID/EX there is nothing to say of ID/EX. -/
theorem flow_of_bubble {s : State} (hv : s.idEx.valid = false) (hnext : s.nextPc = s.pc + 4#32)
    (hpc : s.ifId.valid = true → s.pc = s.ifId.pc + 4#32) : Flow s := by
  have hno : ¬ s.idEx.valid = true := by simp [hv]
  exact ⟨hnext, hpc, fun h => absurd h hno, fun h => absurd h hno, fun h => absurd h hno⟩

theorem loadUseSafe_of_bubble {s : State} (hv : s.idEx.valid = false) : LoadUseSafe s :=
  fun h => absurd h (by simp [hv])

/-- A tick that does not stall has no load in EX/MEM that feeds the instruction that leaves IF/ID (R280, R303). -/
theorem loadUseSafe_tick_of_flowing {s : State} (hs : s.halted = false) (hon : s.hazardDetection = true)
    (hstall : stallNow s = false)
    (hid : (tick s).idEx.valid = true → (tick s).idEx.ins = decodeRecord s.ifId.raw s.ifId.pc) : LoadUseSafe (tick s) := by
  intro hv hx hread h0
  cases hd : s.idEx.valid with
  | false => simp [tick_exMem_of_bubble hs hd, flushedExMem] at hx
  | true =>
    have hins : (tick s).exMem.ins = s.idEx.ins := by rw [tick_exMem_of_valid hs hd]; rfl
    have hfree : detectLoadUse s.idEx (decodeRecord s.ifId.raw s.ifId.pc) = false := by simpa [stallNow, hon] using hstall
    rw [hins] at hread h0 ⊢
    rw [hid hv, ← not_or]
    intro hsame
    have hload := (loadUsePredicate.1 s.idEx (decodeRecord s.ifId.raw s.ifId.pc)).2 ⟨hd, hread, h0, hsame⟩
    exact Bool.false_ne_true (hfree.symm.trans hload)

/-- Settles O55: a stall and a redirect leave a bubble in ID/EX; a tick that flows moves the instruction of IF/ID, with the
registers as WB leaves them, into ID/EX. -/
theorem tickKeepsTheFlow : Obligations.TickKeepsTheFlow := by
  intro s t he hs hinv hflow h
  obtain rfl := eq_tick_of_step he h
  have hnext : (tick s).nextPc = (tick s).pc + 4#32 := (inv_tick hinv).nextPcFollows ((tick_engine s).trans he)
  cases hstall : stallNow s with
  | true =>
    obtain ⟨hon, hload⟩ := Bool.and_eq_true_iff.1 hstall
    obtain ⟨-, -, hid, hif, hpc, -⟩ := stalledTick s _ hinv he hs hon hload h
    have hbubble : (tick s).idEx.valid = false := by rw [hid]; rfl
    exact ⟨flow_of_bubble hbubble hnext (by rw [hif, hpc]; exact hflow.pcFollows), fun _ => loadUseSafe_of_bubble hbubble⟩
  | false =>
    cases htaken : (tick s).exMem.branchTaken with
    | true =>
      obtain ⟨hif, hid, hpc, -⟩ := redirectTick s _ hinv he hs h htaken
      have hbubble : (tick s).idEx.valid = false := by rw [hid]; rfl
      exact ⟨flow_of_bubble hbubble hnext fun _ => by rw [hif, hpc], fun _ => loadUseSafe_of_bubble hbubble⟩
    | false =>
      obtain ⟨hif, hpc, -, -, -, hempty, hfull⟩ :=
        flowingTick s _ hinv he hs h (by simp [tick_flowing s hs hstall, hstall]) htaken
      cases hv : s.ifId.valid with
      | false =>
        have hbubble : (tick s).idEx.valid = false := by rw [hempty hv]; rfl
        exact ⟨flow_of_bubble hbubble hnext fun _ => by rw [hif, hpc], fun _ => loadUseSafe_of_bubble hbubble⟩
      | true =>
        have hid := hfull hv
        refine ⟨⟨hnext, fun _ => by rw [hif, hpc], fun _ => ?_, fun _ => by rw [hid], fun _ => by rw [hid]⟩, fun hon =>
          loadUseSafe_tick_of_flowing hs hon hstall fun _ => by rw [hid]⟩
        rw [hif, hid]
        exact ⟨rfl, hflow.pcFollows hv⟩

end Sys2Proof.Machine
/-! A run of the pipeline with both features on is a run of the reference engine (R310). -/

namespace Sys2Proof.Machine

open Sys2Proof.Safety

/-- A tick that executes no ECALL leaves none past EX. -/
theorem noEcallPastEx_tick {s : State} (hs : s.halted = false) (hpast : NoEcallPastEx s)
    (hk : s.idEx.valid = true → s.idEx.ins.kind ≠ .ecall) : NoEcallPastEx (tick s) := by
  refine ⟨fun hx => ?_, fun hm => ?_⟩
  · cases hv : s.idEx.valid with
    | false => simp [tick_exMem_of_bubble hs hv, flushedExMem] at hx
    | true =>
      rw [tick_exMem_of_valid hs hv]
      exact hk hv
  · rw [(tick_memory hs).2.1, memStage_memWb] at hm ⊢
    cases hx : s.exMem.valid with
    | false => simp [hx, flushedMemWb] at hm
    | true => exact hpast.1 hx

/-- A run whose first step answers goes on from the answer. -/
theorem run_succ_of_step {M : Host.Core} {r r' : M.State} (h : M.step r = .next r') (m : Nat) :
    M.run (m + 1) r = M.run m r' := by
  rw [Host.Core.run, h]

/-- The invariant of a run with both features on: the premises of one tick, kept by every tick that executes no ECALL. -/
structure RunInv (s : State) : Prop where
  inv : Inv s
  flow : Flow s
  loadUseSafe : LoadUseSafe s
  noEcallPastEx : NoEcallPastEx s
  engine : s.engine = .pipeline
  halted : s.halted = false
  hazardDetection : s.hazardDetection = true
  forwarding : s.forwarding = true

theorem runInv_tick {s : State} (h : RunInv s) (hk : s.idEx.valid = true → s.idEx.ins.kind ≠ .ecall) :
    RunInv (tick s) := by
  obtain ⟨hhd, hfw, -, hen⟩ := tick_sameConfiguration s
  obtain ⟨hflow, hsafe⟩ := tickKeepsTheFlow s _ h.engine h.halted h.inv h.flow (step_pipeline s h.engine)
  exact
    { inv := inv_tick h.inv
      flow := hflow
      loadUseSafe := hsafe h.hazardDetection
      noEcallPastEx := noEcallPastEx_tick h.halted h.noEcallPastEx hk
      engine := hen.trans h.engine
      halted := (tick_running_iff h.engine h.halted).2 h.noEcallPastEx.2
      hazardDetection := hhd.trans h.hazardDetection
      forwarding := hfw.trans h.forwarding }

/-- The refinement of one tick: the reference engine takes one step or none (R310). -/
theorem inStep_tick {s r : State} (h : RunInv s) (hcoh : FetchCoherent s)
    (hk : s.idEx.valid = true → s.idEx.ins.kind ≠ .ecall) (hr : InStep s r) :
    (∃ r', step r = .next r' ∧ InStep (tick s) r') ∨ InStep (tick s) r := by
  have hcommit := tickCommitsReferenceStep s r h.inv h.flow h.loadUseSafe h.noEcallPastEx h.engine h.halted h.forwarding
    hcoh hk hr
  split at hcommit
  · exact .inl hcommit
  · exact .inr hcommit

/-- The refinement of a run, by induction on the ticks. -/
theorem run_inStep_ticks (n : Nat) {s r : State} (h : RunInv s) (hcoh : CoherentFor n s) (hr : InStep s r) :
    ∃ (m : Nat) (r' : State), m ≤ n ∧ Host.Core.run Sys2Proof.core m r = .next r' ∧ InStep (ticks n s) r' ∧
      (ticks n s).halted = false := by
  induction n generalizing s r with
  | zero => exact ⟨0, r, Nat.le_refl 0, rfl, hr, h.halted⟩
  | succ n ih =>
    obtain ⟨hfetch, hk, hrest⟩ := hcoh
    rcases inStep_tick h hfetch hk hr with ⟨r₁, hstep, hr₁⟩ | hr₀
    · obtain ⟨m, r', hm, hrun, hin⟩ := ih (runInv_tick h hk) hrest hr₁
      exact ⟨m + 1, r', Nat.succ_le_succ hm, (run_succ_of_step (M := Sys2Proof.core) hstep m).trans hrun, hin⟩
    · obtain ⟨m, r', hm, hrun, hin⟩ := ih (runInv_tick h hk) hrest hr₀
      exact ⟨m, r', Nat.le_succ_of_le hm, hrun, hin⟩

/-- Settles O58: the premises are those of one tick, which every tick keeps. -/
theorem pipelineRefinesReferenceRun : Obligations.PipelineRefinesReferenceRun := by
  intro n s r hinv hflow hsafe hpast he hs hhd hfw hcoh hr
  exact run_inStep_ticks n ⟨hinv, hflow, hsafe, hpast, he, hs, hhd, hfw⟩ hcoh hr

end Sys2Proof.Machine
/-! One instruction alone in the pipeline: the five ticks from its fetch to its write-back. -/

namespace Sys2Proof.Machine

open Sys2Proof.Safety

/-! The reference step of any instruction, ECALL included. -/

/-- What a reference step does to memory, registers and `halted` (R115 to R121): an ECALL makes no access and writes nothing. -/
theorem datapathStep_effect (w : Word) (s : State) {i : Decoded} (hi : i = decodeRecord w s.pc) :
    (datapathStep i s).mem =
      (accessMemory i (resultOf i s.pc (readReg s i.rs1) (readReg s i.rs2)) (readReg s i.rs2) s).mem ∧
    (datapathStep i s).regs = (writeBack i (writeBackValue i
      (memDataOf i (resultOf i s.pc (readReg s i.rs1) (readReg s i.rs2)) s)
      (resultOf i s.pc (readReg s i.rs1) (readReg s i.rs2))) s).regs ∧
    ((datapathStep i s).halted = true ↔ i.kind = .ecall ∨ s.halted = true) := by
  by_cases hk : i.kind = .ecall
  · obtain ⟨hwrite, hread, hstore, -⟩ := ecall_controlBits (i := i) (by rw [hi]; rfl) hk
    simp [datapathStep, hk, accessMemory, writeBack, hwrite, hread, hstore]
  · rw [datapathStep_of_not_ecall hk]
    simp [hk, writeBack_regs_congr (t := s) (accessMemory_regs ..)]

/-! Bubbles. -/

/-- From two bubbles nothing is forwarded, whether `forwarding` is on or off (R281, R295). -/
theorem forwardOperand_of_bubbles {e : ExMem} {m : MemWb} (he : e.valid = false) (hm : m.valid = false) (fw : Bool)
    (rs : RegIdx) (v : Word) : forwardOperand fw rs v e m = (v, 0) := by
  simp [forwardOperand, forwardSource, he, hm]

/-- A running pipeline with nothing in EX/MEM and MEM/WB, and the registers and memory of `s`. -/
structure BackIdle (s u : State) : Prop where
  running : u.halted = false
  exMem : u.exMem = flushedExMem
  memWb : u.memWb = flushedMemWb
  regs : u.regs = s.regs
  mem : u.mem = s.mem

/-- A tick halts the machine exactly where MEM/WB holds an ECALL (R293). -/
theorem tick_halted_iff {s : State} (hs : s.halted = false) :
    (tick s).halted = true ↔ s.memWb.valid = true ∧ s.memWb.ins.kind = .ecall := by
  rw [(tick_regs_halted hs).2]
  exact wbStage_halted _ _ hs

/-- Two ticks write the registers that the instructions of MEM/WB and EX/MEM have yet to write. -/
theorem ticks_two_regs {s : State} (hs : s.halted = false) (hs1 : (tick s).halted = false) :
    (ticks 2 s).regs = (drained s).regs :=
  calc (tick (tick s)).regs
    _ = (wbStage (tick s).memWb (tick s)).regs := (tick_regs_halted hs1).1.trans (wbStage_regs_congr (by rfl) _)
    _ = (drained s).regs := (drained_eq_of_tick hs).2

/-- A bubble in MEM/WB writes nothing and does not halt (R293). -/
theorem tick_of_bubble_in_memWb {s : State} (hs : s.halted = false) (hm : s.memWb.valid = false) :
    (tick s).regs = s.regs ∧ (tick s).halted = false := by
  obtain ⟨hregs, hhalt⟩ := tick_regs_halted hs
  rw [hregs, hhalt, wbStage_invalid _ _ hm]
  exact ⟨rfl, hs⟩

/-- A bubble in EX/MEM stores nothing and goes on to MEM/WB (R294). -/
theorem tick_of_bubble_in_exMem {s : State} (hs : s.halted = false) (hx : s.exMem.valid = false) :
    (tick s).mem = s.mem ∧ (tick s).memWb = flushedMemWb := by
  obtain ⟨hmem, hwb, -⟩ := tick_memory hs
  rw [hmem, hwb, memStage_mem, memStage_memWb]
  simp [hx]

/-- An idle back of the pipeline has nothing to drain. -/
theorem drained_of_backIdle {s u : State} (h : BackIdle s u) :
    (drained u).mem = s.mem ∧ (drained u).regs = s.regs := by
  rw [drained_mem, drained_regs, memStage_mem, memStage_memWb, h.exMem, h.memWb]
  exact ⟨h.mem, h.regs⟩

/-- While ID/EX holds a bubble, the back of the pipeline stays idle. -/
theorem backIdle_tick {s u : State} (h : BackIdle s u) (hd : u.idEx.valid = false) : BackIdle s (tick u) := by
  obtain ⟨hregs, hhalt⟩ := tick_of_bubble_in_memWb h.running (by rw [h.memWb]; rfl)
  obtain ⟨hmem, hwb⟩ := tick_of_bubble_in_exMem h.running (by rw [h.exMem]; rfl)
  exact ⟨hhalt, tick_exMem_of_bubble h.running hd, hwb, hregs.trans h.regs, hmem.trans h.mem⟩

/-- With a bubble in ID/EX a tick fetches the word at `pc` and decodes the one in IF/ID (R297, R298). -/
theorem tick_front_of_bubble {s : State} (hs : s.halted = false) (hd : s.idEx.valid = false) :
    (tick s).ifId = { raw := (tick s).mem.readWord s.pc, pc := s.pc, pc4 := s.pc + 4#32, valid := true } ∧
    (s.ifId.valid = false → (tick s).idEx = flushedIdEx) ∧
    (s.ifId.valid = true → (tick s).idEx =
      { ins := decodeRecord s.ifId.raw s.ifId.pc, pc := s.ifId.pc, pc4 := s.ifId.pc4, valid := true
        rs1Val := readReg (tick s) (decodeRecord s.ifId.raw s.ifId.pc).rs1
        rs2Val := readReg (tick s) (decodeRecord s.ifId.raw s.ifId.pc).rs2 }) := by
  have hstall : stallNow s = false := by simp [stallNow, detectLoadUse, hd]
  have htick := tick_flowing s hs hstall
  have hregs : ∀ j, readReg (tick s) j = readReg (backEnd s) j := readReg_of_regs (by simp [htick])
  have hx : (backEnd s).exMem = flushedExMem := (tick_eq_backEnd hs).1 ▸ tick_exMem_of_bubble hs hd
  obtain ⟨hpc, -, hif, -⟩ := backEnd_front (s := s) (by rw [hx]; rfl)
  have hidEx : (tick s).idEx = (idStage (backEnd s)).idEx := by rw [htick]; rfl
  refine ⟨by simp [htick, hpc], fun hv => ?_, fun hv => ?_⟩
  · rw [hidEx, idStage_idEx, hif, if_neg (by simp [hv])]
  · rw [hidEx, idStage_idEx, hif, if_pos hv, hregs, hregs]

/-! The five ticks. -/

/-- ID/EX with the word at `pc`, its operands read from the register file. -/
def fetchedIdEx (s : State) : IdEx :=
  { ins := decodeRecord (fetchWord s) s.pc, pc := s.pc, pc4 := s.pc + 4#32, valid := true
    rs1Val := readReg s (decodeRecord (fetchWord s) s.pc).rs1
    rs2Val := readReg s (decodeRecord (fetchWord s) s.pc).rs2 }

/-- IF and ID of an instruction that enters an empty pipeline. -/
theorem ticks_two_of_empty {s : State} (h : BackIdle s s) (hf : s.ifId.valid = false) (hd : s.idEx.valid = false) :
    BackIdle s (ticks 2 s) ∧ (ticks 2 s).idEx = fetchedIdEx s := by
  obtain ⟨hif, hid, -⟩ := tick_front_of_bubble h.running hd
  have h1 := backIdle_tick h hd
  have hd1 : (tick s).idEx.valid = false := by rw [hid hf]; rfl
  have h2 := backIdle_tick h1 hd1
  obtain ⟨-, -, hid2⟩ := tick_front_of_bubble h1.running hd1
  refine ⟨h2, (hid2 (by rw [hif])).trans ?_⟩
  rw [hif, h1.mem, readReg_of_regs h2.regs, readReg_of_regs h2.regs]
  rfl

/-- EX, MEM and WB of an instruction with an idle back of the pipeline before it, whatever follows it: it drains from EX/MEM in
the two ticks after its EX. -/
theorem ticks_three_of_backIdle {s u : State} {d : IdEx} (h : BackIdle s u) (hv : d.valid = true) (hd : u.idEx = d) :
    (ticks 2 u).mem = (accessMemory d.ins (resultOf d.ins d.pc d.rs1Val d.rs2Val) d.rs2Val s).mem ∧
    (ticks 2 u).regs = s.regs ∧ (ticks 2 u).halted = false ∧
    (ticks 3 u).regs = (writeBack d.ins (writeBackValue d.ins
      (memDataOf d.ins (resultOf d.ins d.pc d.rs1Val d.rs2Val) s) (resultOf d.ins d.pc d.rs1Val d.rs2Val)) s).regs ∧
    ((ticks 3 u).halted = true ↔ d.ins.kind = .ecall) := by
  subst hd
  have hxv : u.exMem.valid = false := by rw [h.exMem]; rfl
  have hmv : u.memWb.valid = false := by rw [h.memWb]; rfl
  have hx1 : (tick u).exMem = executed u.idEx u.idEx.rs1Val u.idEx.rs2Val := by
    rw [tick_exMem_of_valid h.running hv, operandA, operandB, forwardOperand_of_bubbles hxv hmv,
      forwardOperand_of_bubbles hxv hmv]
  obtain ⟨hregs1, hs1⟩ := tick_of_bubble_in_memWb h.running hmv
  obtain ⟨-, hwb1⟩ := tick_of_bubble_in_exMem h.running hxv
  obtain ⟨hregs2, hs2⟩ := tick_of_bubble_in_memWb hs1 (by rw [hwb1]; rfl)
  have hwb2 : (tick (tick u)).memWb.valid = true ∧ (tick (tick u)).memWb.ins = u.idEx.ins := by
    rw [(tick_memory hs1).2.1, memStage_memWb, hx1]
    exact ⟨rfl, rfl⟩
  obtain ⟨hmem0, hregs0⟩ := drained_of_backIdle h
  obtain ⟨hmem, hregs⟩ := drained_tick_of_executed h.running hx1
  refine ⟨?_, hregs2.trans (hregs1.trans h.regs), hs2, ?_, ?_⟩
  · exact ((drained_eq_of_tick hs1).1.trans hmem).trans (accessMemory_mem_congr hmem0 _ _ _)
  · refine ((ticks_two_regs hs1 hs2).trans hregs).trans ?_
    rw [memDataOf, hmem0]
    exact writeBack_regs_congr hregs0 _ _
  · exact (tick_halted_iff hs2).trans (by simp [hwb2])

/-- Settles O56: in two ticks the instruction reaches ID/EX with nothing before it, and the next three do what its reference
step does. -/
theorem emptyPipelineRunsOneInstruction : Obligations.EmptyPipelineRunsOneInstruction := by
  intro s t _ hs _ hf hd hx hm h
  obtain ⟨hidle, hid⟩ := ticks_two_of_empty ⟨hs, hx, hm, rfl, rfl⟩ (by rw [hf]; rfl) (by rw [hd]; rfl)
  obtain ⟨hmem, hregs, hrun, hregs5, hhalt5⟩ := ticks_three_of_backIdle hidle rfl hid
  obtain ⟨hmemT, hregsT, hhaltT⟩ := datapathStep_effect (fetchWord s) s rfl
  obtain rfl : datapathStep (decodeRecord (fetchWord s) s.pc) s = t := by
    cases (execIsTheCommonDatapath _ s).symm.trans h
    rfl
  have hhalt : (ticks 5 s).halted = true ↔ _ := hhalt5.trans (by simpa [hs, fetchedIdEx] using hhaltT.symm)
  exact ⟨hmem.trans hmemT.symm, hregs, hrun, hregs5.trans hregsT.symm, Bool.eq_iff_iff.2 hhalt⟩

end Sys2Proof.Machine
